-- ==== Sys2Proof/Word.lean ====
section
/-! DEFINITION. The plain types of the block: bytes, pin levels, and the named sets of values the spec
uses in its state and in its event words. -/

namespace Sys2Proof

/-- A bus byte or a store byte (00_scope.md R5). -/
abbrev Byte := BitVec 8

/-- A pin level (00_scope.md R8): `true` is 1, high, released; `false` is 0, low, driven low. -/
abbrev Level := Bool

/-- The nine control states (10_state.md R21); no other value exists (60_exceptions.md R212). -/
inductive BusState where
  | idle | addressing | ackReadAddr | ackRead | ackWrite | nackWrite | reading | writing | waiting
  deriving DecidableEq, Repr

/-- The two responders of the block (44_registry.md R200). -/
inductive Responder where
  | rtc
  | mem
  deriving DecidableEq, Repr

/-- The direction bit of an address byte (30_encoding.md R75): 0 is a write, 1 is a read. -/
inductive Direction where
  | write
  | read
  deriving DecidableEq, Repr

/-- The two results of `start` and `write`, and the controller's answer to a read byte (00_scope.md R10). -/
inductive Ack where
  | ack
  | nack
  deriving DecidableEq, Repr

/-- The RTC responder's sub-state (10_state.md R32). -/
inductive RtcPhase where
  | addressPhase
  | dataPhase
  deriving DecidableEq, Repr

/-- The class of a pin sample against the previous one (30_encoding.md R72). -/
inductive EventClass where
  | start | stop | fall | rise | none
  deriving DecidableEq, Repr

/-- The three word formats of spec/opcode_table.json (30_encoding.md R71, R80, R81). -/
inductive Format where
  | dispatch
  | responderCall
  | hostOp
  deriving DecidableEq, Repr

/-- An encoded event: the table's word in a byte of its own and, above it, the operand of the call.
The word's layout is the spec's (R71, R80, R81); the operand's is the model's, see log entry 2
(DESIGN CHOICE). -/
structure EventWord where
  format  : Format
  code    : Byte
  operand : Nat
  deriving DecidableEq, Repr

/-- Why the decoder rejects an event word. -/
inductive DecodeError where
  /-- State codes 9 to 15 encode no state (30_encoding.md R82(b), 60_exceptions.md R212). -/
  | unassignedStateCode
  /-- Responder-call ops 5 to 7 are unused (30_encoding.md R82(d)). -/
  | unusedResponderOp
  /-- `ph` is 0 in every responder call but an RTC write (30_encoding.md R80). -/
  | phaseBitSet
  /-- A bit is set above the format's width (30_encoding.md R80, R81). -/
  | codeTooWide
  /-- The operand does not fit the operand of this call. -/
  | operandTooWide
  deriving DecidableEq, Repr

end Sys2Proof
end

