-- ==== Sys2Proof/Syntax.lean ====
section
/-! DEFINITION. The instructions: one constructor for each of the 38 rows of spec/opcode_table.json. A
dispatch row keeps the bits its mask leaves free; a responder call and a host-op keep their operands. -/

namespace Sys2Proof

inductive Instr where
  -- dispatch words (30_encoding.md R71): `st` state before, `pd` previous data, `d` data of this call
  | start (st : BusState)
  | stop (st : BusState)
  | noneClockLow (st : BusState) (pd d : Level)
  | noneHighSteadyLow (st : BusState)
  | noneHighSteadyHigh (st : BusState)
  | idleFall (pd d : Level)
  | idleRise (pd d : Level)
  | addressingFall (pd d : Level)
  | addressingRise (pd d : Level)
  | ackReadAddrFall (pd d : Level)
  | ackReadAddrRise (pd d : Level)
  | ackReadFall (pd d : Level)
  | ackReadRise (pd d : Level)
  | ackWriteFall (pd d : Level)
  | ackWriteRise (pd d : Level)
  | nackWriteFall (pd d : Level)
  | nackWriteRise (pd d : Level)
  | readingFall (pd d : Level)
  | readingRise (pd d : Level)
  | writingFall (pd d : Level)
  | writingRise (pd d : Level)
  | waitingFall (pd d : Level)
  | waitingRise (pd d : Level)
  -- responder calls (30_encoding.md R80)
  | rtcStart (addr7 : BitVec 7) (dir : Direction)
  | rtcWriteAddress (b : Byte)
  | rtcWriteData (b : Byte)
  | rtcRead
  | rtcStop
  | rtcReadAck (a : Ack)
  | memStart (addr7 : BitVec 7) (dir : Direction)
  | memWrite (b : Byte)
  | memRead
  | memStop
  | memReadAck (a : Ack)
  -- host-ops (30_encoding.md R81)
  | powerOn (mask : Nat)
  | reset (mask : Nat)
  | saveRequest
  | pinChange (c d : Level)
  deriving DecidableEq, Repr

end Sys2Proof
end

