-- ==== Sys2Proof/Decode.lean ====
section
/-! DEFINITION. The decoder of event words, total and rejecting by name; after it the encoder, the opcode
table, and the reading of a word of the table without its format. -/

namespace Sys2Proof

/-! ## Fields and codes -/

/-- State codes (30_encoding.md R73). -/
def BusState.code : BusState → BitVec 4
  | .idle => 0
  | .addressing => 1
  | .ackReadAddr => 2
  | .ackRead => 3
  | .ackWrite => 4
  | .nackWrite => 5
  | .reading => 6
  | .writing => 7
  | .waiting => 8

/-- The state a code stands for; codes 9 to 15 stand for none (30_encoding.md R73, R82(b)). -/
def BusState.ofCode (c : BitVec 4) : Option BusState :=
  match c.toNat with
  | 0 => some .idle
  | 1 => some .addressing
  | 2 => some .ackReadAddr
  | 3 => some .ackRead
  | 4 => some .ackWrite
  | 5 => some .nackWrite
  | 6 => some .reading
  | 7 => some .writing
  | 8 => some .waiting
  | _ => none

/-- The direction bit (30_encoding.md R75). -/
def Direction.ofBit : Bool → Direction
  | false => .write
  | true => .read

def Direction.toBit : Direction → Bool
  | .write => false
  | .read => true

/-- The level of an acknowledge on the data line: ACK is 0, NACK is 1 (00_scope.md R10). -/
def Ack.level : Ack → Level
  | .ack => false
  | .nack => true

def Ack.ofLevel : Level → Ack
  | false => .ack
  | true => .nack

/-- The device address of an address byte: bits [7:1] (30_encoding.md R74). -/
def addr7Of (a : Byte) : BitVec 7 := a.extractLsb' 1 7

/-- The direction of an address byte: bit [0] (30_encoding.md R74, R75). -/
def dirOf (a : Byte) : Direction := Direction.ofBit (a.getLsbD 0)

/-- The address byte of a device address and a direction (30_encoding.md R74). -/
def addressByte (addr7 : BitVec 7) (dir : Direction) : Byte := addr7 ++ BitVec.ofBool dir.toBit

/-! ## Event classification -/

/-- The class of a sample `(c, d)` after `(pc, pd)` (30_encoding.md R72). -/
def classify (pc pd c d : Level) : EventClass :=
  match pc, pd, c, d with
  | true, true, true, false => .start
  | true, false, true, true => .stop
  | true, _, false, _ => .fall
  | false, _, true, _ => .rise
  | false, _, false, _ => .none
  | true, false, true, false => .none
  | true, true, true, true => .none

/-! ## Decoding a dispatch word -/

/-- The falling-edge row of a state (42_bus_detection.md R146). -/
def fallInstr (st : BusState) (pd d : Level) : Instr :=
  match st with
  | .idle => .idleFall pd d
  | .addressing => .addressingFall pd d
  | .ackReadAddr => .ackReadAddrFall pd d
  | .ackRead => .ackReadFall pd d
  | .ackWrite => .ackWriteFall pd d
  | .nackWrite => .nackWriteFall pd d
  | .reading => .readingFall pd d
  | .writing => .writingFall pd d
  | .waiting => .waitingFall pd d

/-- The rising-edge row of a state (42_bus_detection.md R146). -/
def riseInstr (st : BusState) (pd d : Level) : Instr :=
  match st with
  | .idle => .idleRise pd d
  | .addressing => .addressingRise pd d
  | .ackReadAddr => .ackReadAddrRise pd d
  | .ackRead => .ackReadRise pd d
  | .ackWrite => .ackWriteRise pd d
  | .nackWrite => .nackWriteRise pd d
  | .reading => .readingRise pd d
  | .writing => .writingRise pd d
  | .waiting => .waitingRise pd d

/-- The row that the fields of a dispatch word select; the seven patterns of 30_encoding.md R72 cover
all 16 samples. -/
def dispatchInstr (st : BusState) (pc pd c d : Level) : Instr :=
  match pc, pd, c, d with
  | true, true, true, false => .start st
  | true, false, true, true => .stop st
  | true, pd, false, d => fallInstr st pd d
  | false, pd, true, d => riseInstr st pd d
  | false, pd, false, d => .noneClockLow st pd d
  | true, false, true, false => .noneHighSteadyLow st
  | true, true, true, true => .noneHighSteadyHigh st

/-- A call without an operand has operand bits 0. -/
def withoutOperand (arg : Nat) (i : Instr) : Except DecodeError Instr :=
  if arg = 0 then .ok i else .error .operandTooWide

/-- A call whose operand is a byte. -/
def withByte (arg : Nat) (k : Byte → Instr) : Except DecodeError Instr :=
  if arg < 256 then .ok (k (BitVec.ofNat 8 arg)) else .error .operandTooWide

/-- A call whose operand is one level. -/
def withLevel (arg : Nat) (k : Level → Instr) : Except DecodeError Instr :=
  if arg < 2 then .ok (k (arg.testBit 0)) else .error .operandTooWide

/-- Fields `st` [7:4], `pc` [3], `pd` [2], `c` [1], `d` [0] (30_encoding.md R71). -/
def decodeDispatch (w : Byte) (arg : Nat) : Except DecodeError Instr :=
  match BusState.ofCode (w.extractLsb' 4 4) with
  | none => .error .unassignedStateCode
  | some st =>
    withoutOperand arg (dispatchInstr st (w.getLsbD 3) (w.getLsbD 2) (w.getLsbD 1) (w.getLsbD 0))

/-! ## Decoding a responder-call word -/

/-- Fields `dev` [4], `op` [3:1], `ph` [0] (30_encoding.md R80). -/
def decodeResponderCall (w : Byte) (arg : Nat) : Except DecodeError Instr :=
  if 32 ≤ w.toNat then .error .codeTooWide
  else match w.getLsbD 4, (w.extractLsb' 1 3).toNat, w.getLsbD 0 with
    | false, 0, false => withByte arg fun a => .rtcStart (addr7Of a) (dirOf a)
    | false, 1, false => withByte arg .rtcWriteAddress
    | false, 1, true => withByte arg .rtcWriteData
    | false, 2, false => withoutOperand arg .rtcRead
    | false, 3, false => withoutOperand arg .rtcStop
    | false, 4, false => withLevel arg fun l => .rtcReadAck (Ack.ofLevel l)
    | true, 0, false => withByte arg fun a => .memStart (addr7Of a) (dirOf a)
    | true, 1, false => withByte arg .memWrite
    | true, 2, false => withoutOperand arg .memRead
    | true, 3, false => withoutOperand arg .memStop
    | true, 4, false => withLevel arg fun l => .memReadAck (Ack.ofLevel l)
    | _, op, _ => .error (if op < 5 then .phaseBitSet else .unusedResponderOp)

/-! ## Decoding a host-op word -/

/-- Field `op` [1:0] (30_encoding.md R81). The mask of POWER_ON and RESET has no width in the spec, so
every operand is one. -/
def decodeHostOp (w : Byte) (arg : Nat) : Except DecodeError Instr :=
  match w.toNat with
  | 0 => .ok (.powerOn arg)
  | 1 => .ok (.reset arg)
  | 2 => withoutOperand arg .saveRequest
  | 3 => if arg < 4 then .ok (.pinChange (arg.testBit 1) (arg.testBit 0)) else .error .operandTooWide
  | _ => .error .codeTooWide

/-- The decoder: total on every event word. -/
def decode (w : EventWord) : Except DecodeError Instr :=
  match w.format with
  | .dispatch => decodeDispatch w.code w.operand
  | .responderCall => decodeResponderCall w.code w.operand
  | .hostOp => decodeHostOp w.code w.operand

/-! ## Encoding -/

/-- The dispatch word of a state and two samples (30_encoding.md R71). -/
def dispatchCode (st : BusState) (pc pd c d : Level) : Byte :=
  st.code ++ BitVec.ofBool pc ++ BitVec.ofBool pd ++ BitVec.ofBool c ++ BitVec.ofBool d

def dispatchWord (st : BusState) (pc pd c d : Level) : EventWord :=
  { format := .dispatch, code := dispatchCode st pc pd c d, operand := 0 }

/-- A FALL word: clock 1 before and 0 now (30_encoding.md R72). -/
def fallWord (st : BusState) (pd d : Level) : EventWord := dispatchWord st true pd false d

/-- A RISE word: clock 0 before and 1 now (30_encoding.md R72). -/
def riseWord (st : BusState) (pd d : Level) : EventWord := dispatchWord st false pd true d

def responderWord (code : Byte) (operand : Nat) : EventWord :=
  { format := .responderCall, code := code, operand := operand }

def hostWord (code : Byte) (operand : Nat) : EventWord :=
  { format := .hostOp, code := code, operand := operand }

/-- The operand of PIN_CHANGE: `{c, d}`, in the order of the dispatch word. -/
def sampleOperand (c d : Level) : Nat := 2 * c.toNat + d.toNat

/-- The words of an instruction, from the match values of spec/opcode_table.json. -/
def encode : Instr → EventWord
  | .start st => dispatchWord st true true true false
  | .stop st => dispatchWord st true false true true
  | .noneClockLow st pd d => dispatchWord st false pd false d
  | .noneHighSteadyLow st => dispatchWord st true false true false
  | .noneHighSteadyHigh st => dispatchWord st true true true true
  | .idleFall pd d => fallWord .idle pd d
  | .idleRise pd d => riseWord .idle pd d
  | .addressingFall pd d => fallWord .addressing pd d
  | .addressingRise pd d => riseWord .addressing pd d
  | .ackReadAddrFall pd d => fallWord .ackReadAddr pd d
  | .ackReadAddrRise pd d => riseWord .ackReadAddr pd d
  | .ackReadFall pd d => fallWord .ackRead pd d
  | .ackReadRise pd d => riseWord .ackRead pd d
  | .ackWriteFall pd d => fallWord .ackWrite pd d
  | .ackWriteRise pd d => riseWord .ackWrite pd d
  | .nackWriteFall pd d => fallWord .nackWrite pd d
  | .nackWriteRise pd d => riseWord .nackWrite pd d
  | .readingFall pd d => fallWord .reading pd d
  | .readingRise pd d => riseWord .reading pd d
  | .writingFall pd d => fallWord .writing pd d
  | .writingRise pd d => riseWord .writing pd d
  | .waitingFall pd d => fallWord .waiting pd d
  | .waitingRise pd d => riseWord .waiting pd d
  | .rtcStart addr7 dir => responderWord 0b00000 (addressByte addr7 dir).toNat
  | .rtcWriteAddress b => responderWord 0b00010 b.toNat
  | .rtcWriteData b => responderWord 0b00011 b.toNat
  | .rtcRead => responderWord 0b00100 0
  | .rtcStop => responderWord 0b00110 0
  | .rtcReadAck a => responderWord 0b01000 a.level.toNat
  | .memStart addr7 dir => responderWord 0b10000 (addressByte addr7 dir).toNat
  | .memWrite b => responderWord 0b10010 b.toNat
  | .memRead => responderWord 0b10100 0
  | .memStop => responderWord 0b10110 0
  | .memReadAck a => responderWord 0b11000 a.level.toNat
  | .powerOn mask => hostWord 0 mask
  | .reset mask => hostWord 1 mask
  | .saveRequest => hostWord 2 0
  | .pinChange c d => hostWord 3 (sampleOperand c d)

/-! ## The opcode table -/

/-- The row of spec/opcode_table.json an instruction belongs to, by its mnemonic. -/
def Instr.mnemonic : Instr → String
  | .start _ => "START"
  | .stop _ => "STOP"
  | .noneClockLow _ _ _ => "NONE.clock_low"
  | .noneHighSteadyLow _ => "NONE.high_steady_low"
  | .noneHighSteadyHigh _ => "NONE.high_steady_high"
  | .idleFall _ _ => "Idle.FALL"
  | .idleRise _ _ => "Idle.RISE"
  | .addressingFall _ _ => "Addressing.FALL"
  | .addressingRise _ _ => "Addressing.RISE"
  | .ackReadAddrFall _ _ => "AckReadAddr.FALL"
  | .ackReadAddrRise _ _ => "AckReadAddr.RISE"
  | .ackReadFall _ _ => "AckRead.FALL"
  | .ackReadRise _ _ => "AckRead.RISE"
  | .ackWriteFall _ _ => "AckWrite.FALL"
  | .ackWriteRise _ _ => "AckWrite.RISE"
  | .nackWriteFall _ _ => "NackWrite.FALL"
  | .nackWriteRise _ _ => "NackWrite.RISE"
  | .readingFall _ _ => "Reading.FALL"
  | .readingRise _ _ => "Reading.RISE"
  | .writingFall _ _ => "Writing.FALL"
  | .writingRise _ _ => "Writing.RISE"
  | .waitingFall _ _ => "Waiting.FALL"
  | .waitingRise _ _ => "Waiting.RISE"
  | .rtcStart _ _ => "RTC.start"
  | .rtcWriteAddress _ => "RTC.write_address"
  | .rtcWriteData _ => "RTC.write_data"
  | .rtcRead => "RTC.read"
  | .rtcStop => "RTC.stop"
  | .rtcReadAck _ => "RTC.read_ack"
  | .memStart _ _ => "MEM.start"
  | .memWrite _ => "MEM.write"
  | .memRead => "MEM.read"
  | .memStop => "MEM.stop"
  | .memReadAck _ => "MEM.read_ack"
  | .powerOn _ => "POWER_ON"
  | .reset _ => "RESET"
  | .saveRequest => "SAVE_REQUEST"
  | .pinChange _ _ => "PIN_CHANGE"

/-- The rows of one format: mnemonic, match, mask. -/
abbrev TableRows := List (String × Byte × Byte)

def detectionRows : TableRows :=
  [("START", 0x0E, 0x0F), ("STOP", 0x0B, 0x0F), ("NONE.clock_low", 0x00, 0x0A),
   ("NONE.high_steady_low", 0x0A, 0x0F), ("NONE.high_steady_high", 0x0F, 0x0F)]

def handlerRows : TableRows :=
  [("Idle.FALL", 0x08, 0xFA), ("Idle.RISE", 0x02, 0xFA),
   ("Addressing.FALL", 0x18, 0xFA), ("Addressing.RISE", 0x12, 0xFA),
   ("AckReadAddr.FALL", 0x28, 0xFA), ("AckReadAddr.RISE", 0x22, 0xFA),
   ("AckRead.FALL", 0x38, 0xFA), ("AckRead.RISE", 0x32, 0xFA),
   ("AckWrite.FALL", 0x48, 0xFA), ("AckWrite.RISE", 0x42, 0xFA),
   ("NackWrite.FALL", 0x58, 0xFA), ("NackWrite.RISE", 0x52, 0xFA),
   ("Reading.FALL", 0x68, 0xFA), ("Reading.RISE", 0x62, 0xFA),
   ("Writing.FALL", 0x78, 0xFA), ("Writing.RISE", 0x72, 0xFA),
   ("Waiting.FALL", 0x88, 0xFA), ("Waiting.RISE", 0x82, 0xFA)]

def responderRows : TableRows :=
  [("RTC.start", 0x00, 0x1F), ("RTC.write_address", 0x02, 0x1F), ("RTC.write_data", 0x03, 0x1F),
   ("RTC.read", 0x04, 0x1F), ("RTC.stop", 0x06, 0x1F), ("RTC.read_ack", 0x08, 0x1F),
   ("MEM.start", 0x10, 0x1F), ("MEM.write", 0x12, 0x1F), ("MEM.read", 0x14, 0x1F),
   ("MEM.stop", 0x16, 0x1F), ("MEM.read_ack", 0x18, 0x1F)]

def hostRows : TableRows :=
  [("POWER_ON", 0x00, 0x03), ("RESET", 0x01, 0x03), ("SAVE_REQUEST", 0x02, 0x03), ("PIN_CHANGE", 0x03, 0x03)]

/-- The rows of spec/opcode_table.json, by format. -/
def opcodeRows : Format → TableRows
  | .dispatch => detectionRows ++ handlerRows
  | .responderCall => responderRows
  | .hostOp => hostRows

/-! ## A word of the table without its format -/

/-- `Except` to `Option`, dropping the reason. -/
def decoded (w : EventWord) : Option Instr :=
  match decode w with
  | .ok i => some i
  | .error _ => none

/-- The event word of a table word given without its format. The three formats share words, so the
narrowest format that has the word is taken: host-op, then responder call, then dispatch (DESIGN CHOICE,
log entry 2). -/
def tableEventWord (nbits w : Nat) : EventWord :=
  let bits := w % 2 ^ nbits
  let code := BitVec.ofNat 8 bits
  let operand := bits / 256
  if (decoded { format := .hostOp, code := code, operand := operand }).isSome then
    { format := .hostOp, code := code, operand := operand }
  else if (decoded { format := .responderCall, code := code, operand := operand }).isSome then
    { format := .responderCall, code := code, operand := operand }
  else
    { format := .dispatch, code := code, operand := operand }

/-- The instruction the decoder reads from a word numbered as spec/opcode_table.json numbers it. -/
def decodeTableWord (nbits w : Nat) : Option Instr := decoded (tableEventWord nbits w)

end Sys2Proof
end

