-- ==== Sys2Proof/Config.lean ====
section
/-! DEFINITION. What the spec leaves to the environment or to one implementation: the parameters of
00_scope.md R6. Each is a constant without a body, so no proof can see its value. -/

namespace Sys2Proof

/-- One reading of the live wall-clock time, within the ranges the spec admits
(40_rtc_responder.md R106, 92_eei_decisions.md D15). -/
structure TimeSample where
  seconds : Fin 100
  minutes : Fin 100
  hours   : Fin 100
  day     : Fin 40
  month   : Fin 20
  weekday : Fin 8
  year    : Nat
  deriving DecidableEq, Repr, Inhabited

/-- The bit of `enabled_device_mask` that enables the RTC responder (`MASK_BIT_RTC`, D13 OPEN). -/
opaque Config.maskBitRtc : Nat

/-- Which of the other bit indices enables the EEPROM responder, counted without `maskBitRtc`. -/
opaque Config.maskBitMemRank : Nat

/-- The bit of `enabled_device_mask` that enables the EEPROM responder (`MASK_BIT_MEM`, D13 OPEN): any
index but `maskBitRtc`, because 44_registry.md R201 says the two must be different bits. -/
def Config.maskBitMem : Nat :=
  if Config.maskBitMemRank < Config.maskBitRtc then Config.maskBitMemRank else Config.maskBitMemRank + 1

/-- The fixed static 128-entry descriptor table (`SPD_TABLE`, D14 OPEN; 20_memory.md R52). -/
opaque Config.spdTable : BitVec 7 → Byte

/-- `INITIAL_IMAGE` of the power-on that takes draw `n`: the byte at each store address (D17 OPEN;
20_memory.md R63). A free value for each power-on, see log entry 7. -/
opaque Config.initialImage : (n : Nat) → (address : Nat) → Byte

/-- `apply_dynamic_settings()` of the reset that takes draw `n`, as the byte it leaves at an address when
the store's bytes are `contents` (`DYN`, D16 OPEN). Memory.applyDyn lets it change only the addresses the
spec allows. A free value for each reset, see log entry 6. -/
opaque Config.dyn : (n : Nat) → (contents : Nat → Byte) → (address : Nat) → Byte

/-- The live time read by the time overwrite that takes draw `n` (D15; 60_exceptions.md R221). A free value
for each overwrite, with no relation between two of them, see log entry 5. -/
opaque Config.timeSample : (n : Nat) → TimeSample

/-- The `enabled_device_mask` of the power-on that `State.reset` stands for, see log entry 9. -/
opaque Config.sessionMask : Nat

end Sys2Proof
end

