-- ==== Sys2Proof/Machine/Memory.lean ====
section
/-! DEFINITION. The configuration store as plain data in one canonical form, and the operations of its
reset sequence (20_memory.md, 70_reset_and_hazards.md R241). -/

namespace Sys2Proof.Machine

/-- The configuration store (10_state.md R34): address and byte pairs, addresses strictly rising, no entry
equal to what an unlisted address reads as. -/
abbrev Memory := List Host.Cell

/-- The number of store addresses, `STORE_SIZE` (00_scope.md R5). -/
def Memory.size : Nat := 256

/-- `CHECKSUM_ADDR` (00_scope.md R5). -/
def Memory.checksumAddr : Nat := 0x3F

/-- What an unlisted store address reads as: 0x00, the zero-fill of 20_memory.md R63, see log entry 10. -/
def Memory.unlisted : Byte := 0x00

/-- Entries rise strictly from `lo`, stay below the store's size and differ from `unlisted`. -/
def Memory.risingFrom : Nat → Memory → Bool
  | _, [] => true
  | lo, (k, v) :: m => decide (lo ≤ k) && decide (k < Memory.size) && (v != Memory.unlisted) && Memory.risingFrom (k + 1) m

/-- The canonical form. -/
def Memory.wf (m : Memory) : Bool := Memory.risingFrom 0 m

/-- `StoreRead(a)` (20_memory.md R55). -/
def Memory.read : Memory → Nat → Byte
  | [], _ => Memory.unlisted
  | (k, v) :: m, a => if k = a then v else Memory.read m a

/-- An entry for `v` at `a` in front of `m`, unless `v` is what an unlisted address reads as. -/
def Memory.consUnlessUnlisted (a : Nat) (v : Byte) (m : Memory) : Memory :=
  if v = Memory.unlisted then m else (a, v) :: m

/-- `StoreWrite(a, v)` (20_memory.md R55), keeping the canonical form. -/
def Memory.write : Memory → Nat → Byte → Memory
  | [], a, v => Memory.consUnlessUnlisted a v []
  | (k, u) :: m, a, v =>
    if a < k then Memory.consUnlessUnlisted a v ((k, u) :: m)
    else if a = k then Memory.consUnlessUnlisted a v m
    else (k, u) :: Memory.write m a v

/-- The bytes `f lo, …, f (lo + n - 1)` at their addresses. -/
def Memory.tabulate (f : Nat → Byte) : (n lo : Nat) → Memory
  | 0, _ => []
  | n + 1, lo => Memory.consUnlessUnlisted lo (f lo) (Memory.tabulate f n (lo + 1))

/-- The whole store with the bytes `f`. -/
def Memory.ofFn (f : Nat → Byte) : Memory := Memory.tabulate f Memory.size 0

/-- The addresses `DYN` may change: 0x10 to 0xFF other than 0x3F (92_eei_decisions.md D16). -/
def Memory.dynMayChange (a : Nat) : Bool := decide (0x10 ≤ a) && a != Memory.checksumAddr

/-- `apply_dynamic_settings()` of draw `n` (70_reset_and_hazards.md R241): the free value `Config.dyn` at the
addresses it may change, every other byte kept. -/
def Memory.applyDyn (n : Nat) (m : Memory) : Memory :=
  Memory.ofFn fun a => if Memory.dynMayChange a then Config.dyn n m.read a else m.read a

/-- The sum of the `n` bytes from address `lo`, an unbounded natural number (20_memory.md R60). -/
def Memory.sumFrom (m : Memory) : (n lo : Nat) → Nat
  | 0, _ => 0
  | n + 1, lo => (m.read lo).toNat + Memory.sumFrom m n (lo + 1)

/-- The checksum of the 239 persistent bytes 0x40 to 0xFF and 0x10 to 0x3E (20_memory.md R60,
90_conflicts.md C2). -/
def Memory.checksum (m : Memory) : Byte := BitVec.ofNat 8 (m.sumFrom 192 0x40 + m.sumFrom 47 0x10 + 1)

/-- `RecomputeChecksum()` (20_memory.md R60). -/
def Memory.recomputeChecksum (m : Memory) : Memory := m.write Memory.checksumAddr m.checksum

/-- Zero the `n` bytes below address `n`. -/
def Memory.clearBelow : Nat → Memory → Memory
  | 0, m => m
  | n + 1, m => (Memory.clearBelow n m).write n 0x00

/-- `clear_volatile_registers()`: zero 0x00 to 0x0F (70_reset_and_hazards.md R241). -/
def Memory.clearVolatile (m : Memory) : Memory := Memory.clearBelow 0x10 m

/-- `StoreReset()` with `DYN` of draw `n`, in the source's order (70_reset_and_hazards.md R241). -/
def Memory.storeReset (n : Nat) (m : Memory) : Memory := ((m.applyDyn n).recomputeChecksum).clearVolatile

/-- The store of `INITIAL_IMAGE` of draw `n` (20_memory.md R63). -/
def Memory.initialImage (n : Nat) : Memory := Memory.ofFn (Config.initialImage n)

end Sys2Proof.Machine
end

