-- ==== Sys2Proof/Machine/State.lean ====
section
/-! DEFINITION. The state of the block as plain data, the reasons a step stops, and the state after reset. -/

namespace Sys2Proof.Machine

/-- The faults of the block (60_exceptions.md R210, R211); the same names record the fault in State. -/
inductive Fault where
  /-- A clock edge was dispatched in Reading or Writing with no active responder (42_bus_detection.md
  R147). The step that raises it records it in `fault`; every later pin change, reset or save request
  stops with it, because a faulted block takes no further step. Safe: the spec says the run is stuck. -/
  | noActiveResponder
  deriving DecidableEq, Repr

/-- The reasons a step has no meaning. -/
inductive Refusal where
  /-- Raised by an arm of exec for an instruction without a meaning. Safe. -/
  | notModelled (mnemonic : String)
  /-- Raised by step for a pending word that encodes no event (30_encoding.md R82). Safe: nothing runs. -/
  | undecodable (reason : DecodeError)
  /-- Raised by step for a pending word whose state fields (`st`, `pc`, `pd` of a dispatch word, `ph` of an
  RTC write) are not those of the state, so that it is the word of no call in this state. Safe: nothing
  runs. See log entry 3. -/
  | staleWord
  deriving DecidableEq, Repr

/-- The events of the observation list (10_state.md R36). -/
inductive Event where
  | start (dev : Responder) (addr7 : BitVec 7) (dir : Direction) (result : Ack)
  | write (dev : Responder) (byte : Byte) (result : Ack)
  | read (dev : Responder) (byte : Byte)
  | readAck (dev : Responder) (a : Ack)
  | stop (dev : Responder)
  /-- A request to the persistence collaborator, with the store at the moment of the save. -/
  | save (image : Memory)
  deriving DecidableEq, Repr

/-- The state (10_state.md; the last two fields are the model's own). -/
structure State where
  /-- R21 -/
  busState : BusState
  /-- R22 -/
  active : Option Responder
  /-- R23 -/
  srIn : Byte
  /-- R24 -/
  srOut : Byte
  /-- R25: 0 to 8, held in 4 bits -/
  bitCount : BitVec 4
  /-- R26 -/
  prevClock : Level
  /-- R26 -/
  prevData : Level
  /-- R27 -/
  touched : Bool
  /-- R28, R29 -/
  sclOut : Level
  /-- R28 -/
  sdaOut : Level
  /-- R30 -/
  rtcEnabled : Bool
  /-- R30 -/
  memEnabled : Bool
  /-- R31: 16 bits, the value stays at most 0xFF -/
  rtcReg : BitVec 16
  /-- R32 -/
  rtcPhase : RtcPhase
  /-- R33: 8 bits, the value stays at most 0x7F -/
  memReg : BitVec 8
  /-- R34 -/
  store : Memory
  /-- R37 -/
  fault : Option Fault
  /-- R36, oldest first -/
  trace : List Event
  /-- the model's own: the calls the environment has still to make, oldest first (log entry 1) -/
  calls : List EventWord
  /-- the model's own: how many free values have been drawn (log entry 5) -/
  draws : Nat
  deriving DecidableEq, Repr

/-- The machine right after reset: the power-on with the free mask `Config.sessionMask`, the free image of
draw 0 and the free `DYN` of draw 1 (70_reset_and_hazards.md R240 to R243; log entry 9). -/
def State.reset : State where
  busState := .addressing
  active := none
  srIn := 0x00
  srOut := 0x00
  bitCount := 0
  prevClock := true
  prevData := true
  touched := false
  sclOut := true
  sdaOut := true
  rtcEnabled := Config.sessionMask.testBit Config.maskBitRtc
  memEnabled := Config.sessionMask.testBit Config.maskBitMem
  rtcReg := 0x0000
  rtcPhase := .addressPhase
  memReg := 0x00
  store := (Memory.initialImage 0).storeReset 1
  fault := none
  trace := []
  calls := []
  draws := 2

end Sys2Proof.Machine
end

