-- ==== Sys2Proof/Machine/Ops.lean ====
section
/-! DEFINITION. The named operations over the state that the meanings share: the trace, the previous
sample, the output drives, the store, raising the fault, and the list of pending calls. -/

namespace Sys2Proof.Machine

/-- `emit E` (00_scope.md R9). -/
def emit (e : Event) (s : State) : State := { s with trace := s.trace ++ [e] }

/-- The previous-sample update of a pin-change step (42_bus_detection.md R141). -/
def sample (c d : Level) (s : State) : State := { s with prevClock := c, prevData := d }

/-! ## The open-drain driver (00_scope.md R8, 10_state.md R28) -/

/-- "Release": both outputs 1. -/
def release (s : State) : State := { s with sclOut := true, sdaOut := true }

/-- "Drive data to bit"; "drive data low" is the bit 0, "drive data high" the bit 1 (90_conflicts.md C4). -/
def driveData (l : Level) (s : State) : State := { s with sdaOut := l }

/-! ## The store (20_memory.md R55) -/

/-- `StoreRead(a)`: one byte, no side effect. -/
def storeRead (a : Byte) (s : State) : Byte := s.store.read a.toNat

/-- `StoreWrite(a, v)`: one byte, no side effect. -/
def storeWrite (a v : Byte) (s : State) : State := { s with store := s.store.write a.toNat v }

/-- Emit `Save(image)` with the store as it stands (20_memory.md R61, R62). -/
def save (s : State) : State := emit (.save s.store) s

/-! ## The fault (the block's one exception) -/

/-- `raise Fault(reason)`: the reason is recorded and nothing else changes (42_bus_detection.md R147,
60_exceptions.md R210, R218). No vector, no saved state, no return exists (R218, R219). -/
def raiseFault (r : Fault) (s : State) : State := { s with fault := some r }

/-- A step of an unfaulted block; a faulted block takes no further step (60_exceptions.md R210). -/
def whenUnfaulted (k : State → State) (s : State) : Host.Outcome State Fault Refusal :=
  match s.fault with
  | some r => .fault r
  | none => .next (k s)

/-- A pin-change step of one class: the sample update, then the rule's effect (42_bus_detection.md R140). -/
def pinEvent (c d : Level) (effect : State → State) (s : State) : Host.Outcome State Fault Refusal :=
  whenUnfaulted (fun s => effect (sample c d s)) s

/-- A clock edge of Reading or Writing: the fault without an active responder, and then neither handler nor
sample update (42_bus_detection.md R147); else the sample update and the handler. -/
def edgeWithResponder (c d : Level) (handler : State → State) (s : State) : State :=
  match s.active with
  | none => raiseFault .noActiveResponder s
  | some _ => handler (sample c d s)

/-! ## The pending calls (log entry 1) -/

/-- The next call and the state after taking it from the list. -/
def nextCall (s : State) : Option (EventWord × State) :=
  match s.calls with
  | [] => none
  | w :: rest => some (w, { s with calls := rest })

/-- The state with the fields that an instruction's word carries: `st`, `pc` and `pd` of a dispatch word
(30_encoding.md R71), `ph` of an RTC write (R80). -/
def carriedFields (i : Instr) (s : State) : State :=
  let before (st : BusState) (pc pd : Level) : State := { s with busState := st, prevClock := pc, prevData := pd }
  match i with
  | .start st => before st true true
  | .stop st => before st true false
  | .noneClockLow st pd _ => before st false pd
  | .noneHighSteadyLow st => before st true false
  | .noneHighSteadyHigh st => before st true true
  | .idleFall pd _ => before .idle true pd
  | .idleRise pd _ => before .idle false pd
  | .addressingFall pd _ => before .addressing true pd
  | .addressingRise pd _ => before .addressing false pd
  | .ackReadAddrFall pd _ => before .ackReadAddr true pd
  | .ackReadAddrRise pd _ => before .ackReadAddr false pd
  | .ackReadFall pd _ => before .ackRead true pd
  | .ackReadRise pd _ => before .ackRead false pd
  | .ackWriteFall pd _ => before .ackWrite true pd
  | .ackWriteRise pd _ => before .ackWrite false pd
  | .nackWriteFall pd _ => before .nackWrite true pd
  | .nackWriteRise pd _ => before .nackWrite false pd
  | .readingFall pd _ => before .reading true pd
  | .readingRise pd _ => before .reading false pd
  | .writingFall pd _ => before .writing true pd
  | .writingRise pd _ => before .writing false pd
  | .waitingFall pd _ => before .waiting true pd
  | .waitingRise pd _ => before .waiting false pd
  | .rtcWriteAddress _ => { s with rtcPhase := .addressPhase }
  | .rtcWriteData _ => { s with rtcPhase := .dataPhase }
  | .rtcStart _ _ => s
  | .rtcRead => s
  | .rtcStop => s
  | .rtcReadAck _ => s
  | .memStart _ _ => s
  | .memWrite _ => s
  | .memRead => s
  | .memStop => s
  | .memReadAck _ => s
  | .powerOn _ => s
  | .reset _ => s
  | .saveRequest => s
  | .pinChange _ _ => s

/-- The fields an instruction's word carries are those of the state: the word is that of a call in it. -/
def describes (i : Instr) (s : State) : Bool :=
  let t := carriedFields i s
  t.busState == s.busState && t.prevClock == s.prevClock && t.prevData == s.prevData && t.rtcPhase == s.rtcPhase

/-- The state with a word as its only pending call, and with the state fields that word carries. -/
def place (w : EventWord) (s : State) : State :=
  match decode w with
  | .ok i => { carriedFields i s with calls := [w] }
  | .error _ => { s with calls := [w] }

end Sys2Proof.Machine
end

