-- ==== Sys2Proof/Machine/Operands.lean ====
section
/-! DEFINITION. The operand forms: bits of the shift registers, the register addresses of the responders,
the enabled-device mask, and the time-register formats. -/

namespace Sys2Proof.Machine

/-- `((sr_in << 1) | d) & 0xFF` (43_bus_states.md R163, R175; 30_encoding.md R76). -/
def shiftIn (sr : Byte) (d : Level) : Byte := (sr <<< 1) ||| (BitVec.ofBool d).setWidth 8

/-- `sr_out[n]` (43_bus_states.md R172); a bit above bit 7 is 0 (00_scope.md R7, log entry 14). -/
def outBit (sr : Byte) (n : BitVec 4) : Level := sr.getLsbD n.toNat

/-- `zext_16(b)` (40_rtc_responder.md R101). -/
def rtcRegOf (b : Byte) : BitVec 16 := b.setWidth 16

/-- `rtc_reg[7:0]` (40_rtc_responder.md R102, R103). -/
def rtcAddress (s : State) : Byte := s.rtcReg.setWidth 8

/-- `rtc_reg <- (rtc_reg + 1) & 0xFF` (10_state.md R31). -/
def advanceRtcReg (s : State) : State := { s with rtcReg := (s.rtcReg + 1) &&& 0x00FF }

/-- `mem_reg <- b & 0x7F` (41_memory_responder.md R121). -/
def memRegOf (b : Byte) : BitVec 8 := b &&& 0x7F

/-- `mem_reg <- (mem_reg + 1) & 0x7F` (10_state.md R33). -/
def advanceMemReg (s : State) : State := { s with memReg := (s.memReg + 1) &&& 0x7F }

/-- `SpdRead(mem_reg)` (00_scope.md R9); the index is the low 7 bits, which are all of `mem_reg` in every
reachable state (10_state.md R43(c), log entry 8). -/
def spdRead (s : State) : Byte := Config.spdTable (s.memReg.setWidth 7)

/-- `enabled_device_mask[MASK_BIT_RTC]` (44_registry.md R201). -/
def maskEnablesRtc (mask : Nat) : Bool := mask.testBit Config.maskBitRtc

/-- `enabled_device_mask[MASK_BIT_MEM]` (44_registry.md R201). -/
def maskEnablesMem (mask : Nat) : Bool := mask.testBit Config.maskBitMem

/-! ## Time registers (30_encoding.md R79) -/

/-- Packed BCD, tens in the high nibble (00_scope.md R11; PRESUMED by the spec, log entry 15). -/
def bcd (v : Nat) : Byte := BitVec.ofNat 8 (((v / 10) <<< 4) ||| (v % 10))

/-- Byte 0x05: `(((year & 3) << 6) | bcd(day)) & 0xFF`. -/
def yearDayByte (t : TimeSample) : Byte := BitVec.ofNat 8 (((t.year &&& 3) <<< 6) ||| (bcd t.day).toNat)

/-- Byte 0x06: `((weekday << 5) | bcd(month)) & 0xFF`. -/
def weekdayMonthByte (t : TimeSample) : Byte := BitVec.ofNat 8 ((t.weekday.val <<< 5) ||| (bcd t.month).toNat)

end Sys2Proof.Machine
end

