-- ==== Sys2Proof/Machine/Eeprom.lean ====
section
/-! DEFINITION. The EEPROM responder (41_memory_responder.md R120 to R124): its operations, each a change of
state with its result, and the meanings of its rows. -/

namespace Sys2Proof.Machine

/-- R120: both operands are ignored, and the result is always ACK. -/
def memStart (addr7 : BitVec 7) (dir : Direction) (s : State) : State × Ack :=
  (emit (.start .mem addr7 dir .ack) s, .ack)

/-- R121: every write is an address write; the ACK is 92_eei_decisions.md D10. -/
def memWrite (b : Byte) (s : State) : State × Ack :=
  ({ emit (.write .mem b .ack) s with memReg := memRegOf b }, .ack)

/-- R122. -/
def memRead (s : State) : State × Byte :=
  (emit (.read .mem (spdRead s)) (advanceMemReg s), spdRead s)

/-- R123. -/
def memStop (s : State) : State := emit (.stop .mem) s

/-! ## Meanings -/

def execMemStart (addr7 : BitVec 7) (dir : Direction) (s : State) : Host.Outcome State Fault Refusal :=
  whenUnfaulted (fun s => (memStart addr7 dir s).1) s

def execMemWrite (b : Byte) (s : State) : Host.Outcome State Fault Refusal :=
  whenUnfaulted (fun s => (memWrite b s).1) s

def execMemRead (s : State) : Host.Outcome State Fault Refusal :=
  whenUnfaulted (fun s => (memRead s).1) s

def execMemStop (s : State) : Host.Outcome State Fault Refusal :=
  whenUnfaulted memStop s

/-- R124: the EEPROM does not implement `read_ack`; no event is emitted and nothing changes. -/
def execMemReadAck (_a : Ack) (s : State) : Host.Outcome State Fault Refusal :=
  whenUnfaulted (fun s => s) s

end Sys2Proof.Machine
end

