-- ==== Sys2Proof/Machine/Flags.lean ====
section
/-! DEFINITION. The block has no condition codes (10_state.md R40). This file holds what the spec calls
flag-like: the `touched` mark, the RTC phase, and the state an ACK or NACK result selects. -/

namespace Sys2Proof.Machine

/-- "Mark transaction as having touched a responder" (10_state.md R27). -/
def markTouched (s : State) : State := { s with touched := true }

/-- START and reset clear the mark (10_state.md R27). -/
def clearTouched (s : State) : State := { s with touched := false }

/-- The RTC phase (10_state.md R32). -/
def setPhase (p : RtcPhase) (s : State) : State := { s with rtcPhase := p }

/-- The state after a `write` result: AckWrite on ACK, NackWrite on NACK (43_bus_states.md R175). -/
def afterWrite : Ack → BusState
  | .ack => .ackWrite
  | .nack => .nackWrite

/-- The state after an acknowledged address: AckReadAddr for a read, AckWrite for a write
(43_bus_states.md R163; 92_eei_decisions.md D5). -/
def afterAddress : Direction → BusState
  | .read => .ackReadAddr
  | .write => .ackWrite

end Sys2Proof.Machine
end

