-- ==== Sys2Proof/Machine/Rtc.lean ====
section
/-! DEFINITION. The RTC responder (40_rtc_responder.md R100 to R106): its operations, each a change of state
with its result, and the meanings of its rows. -/

namespace Sys2Proof.Machine

/-- R100: both operands are ignored, and the result is always ACK. -/
def rtcStart (addr7 : BitVec 7) (dir : Direction) (s : State) : State × Ack :=
  (setPhase .addressPhase (emit (.start .rtc addr7 dir .ack) s), .ack)

/-- R101: the register-address write. -/
def rtcWriteAddress (b : Byte) (s : State) : State × Ack :=
  (setPhase .dataPhase { emit (.write .rtc b .ack) s with rtcReg := rtcRegOf b }, .ack)

/-- Save after a byte is stored at the checksum address (20_memory.md R61). -/
def saveIfChecksum (a : Byte) (s : State) : State := if a = 0x3F then save s else s

/-- R102: the data write. -/
def rtcWriteData (b : Byte) (s : State) : State × Ack :=
  (advanceRtcReg (saveIfChecksum (rtcAddress s) (storeWrite (rtcAddress s) b (emit (.write .rtc b .ack) s))), .ack)

/-- RTC `write(b)`: the phase decides which of the two it is (10_state.md R32). -/
def rtcWrite (b : Byte) (s : State) : State × Ack :=
  match s.rtcPhase with
  | .addressPhase => rtcWriteAddress b s
  | .dataPhase => rtcWriteData b s

/-- R106: the six time bytes of a sample. -/
def writeTime (t : TimeSample) (s : State) : State :=
  storeWrite 0x06 (weekdayMonthByte t) <|
  storeWrite 0x05 (yearDayByte t) <|
  storeWrite 0x04 (bcd t.hours) <|
  storeWrite 0x03 (bcd t.minutes) <|
  storeWrite 0x02 (bcd t.seconds) <|
  storeWrite 0x01 0x00 s

/-- R106: `TimeOverwrite()` with a fresh draw. -/
def timeOverwrite (s : State) : State :=
  writeTime (Config.timeSample s.draws) { s with draws := s.draws + 1 }

/-- R103: the time registers are synthesised before a read below 0x10. -/
def refreshTime (s : State) : State := if s.rtcReg < 0x0010 then timeOverwrite s else s

/-- R103. -/
def rtcRead (s : State) : State × Byte :=
  let s := refreshTime s
  let v := storeRead (rtcAddress s) s
  (emit (.read .rtc v) (advanceRtcReg s), v)

/-- R104. -/
def rtcStop (s : State) : State := setPhase .addressPhase (emit (.stop .rtc) s)

/-! ## Meanings -/

def execRtcStart (addr7 : BitVec 7) (dir : Direction) (s : State) : Host.Outcome State Fault Refusal :=
  whenUnfaulted (fun s => (rtcStart addr7 dir s).1) s

def execRtcWriteAddress (b : Byte) (s : State) : Host.Outcome State Fault Refusal :=
  whenUnfaulted (fun s => (rtcWriteAddress b s).1) s

def execRtcWriteData (b : Byte) (s : State) : Host.Outcome State Fault Refusal :=
  whenUnfaulted (fun s => (rtcWriteData b s).1) s

def execRtcRead (s : State) : Host.Outcome State Fault Refusal :=
  whenUnfaulted (fun s => (rtcRead s).1) s

def execRtcStop (s : State) : Host.Outcome State Fault Refusal :=
  whenUnfaulted rtcStop s

/-- R105: the RTC does not implement `read_ack`; no event is emitted and nothing changes. -/
def execRtcReadAck (_a : Ack) (s : State) : Host.Outcome State Fault Refusal :=
  whenUnfaulted (fun s => s) s

end Sys2Proof.Machine
end

