-- ==== Sys2Proof/Machine/Registry.lean ====
section
/-! DEFINITION. The registry: which responder an address selects (44_registry.md), and the calls the bus
state machine makes to the responder it holds. -/

namespace Sys2Proof.Machine

/-- `lookup(a7)` (44_registry.md R202), with the fixed addresses of R200. -/
def lookup (a7 : BitVec 7) (s : State) : Option Responder :=
  if a7 = 0x50#7 ∧ s.rtcEnabled = true then some .rtc
  else if a7 = 0x54#7 ∧ s.memEnabled = true then some .mem
  else none

/-- Installation at reset (44_registry.md R201). -/
def installDevices (mask : Nat) (s : State) : State :=
  { s with rtcEnabled := maskEnablesRtc mask, memEnabled := maskEnablesMem mask }

/-- `call r.start(a7, dir)`. -/
def callStart (r : Responder) (addr7 : BitVec 7) (dir : Direction) (s : State) : State × Ack :=
  match r with
  | .rtc => rtcStart addr7 dir s
  | .mem => memStart addr7 dir s

/-- `call r.write(b)`. -/
def callWrite (r : Responder) (b : Byte) (s : State) : State × Ack :=
  match r with
  | .rtc => rtcWrite b s
  | .mem => memWrite b s

/-- `call r.read()`; the status part of the result is not used (92_eei_decisions.md D11). -/
def callRead (r : Responder) (s : State) : State × Byte :=
  match r with
  | .rtc => rtcRead s
  | .mem => memRead s

/-- `call r.stop()`. -/
def callStop (r : Responder) (s : State) : State :=
  match r with
  | .rtc => rtcStop s
  | .mem => memStop s

/-- Neither responder implements the optional `read_ack` (40_rtc_responder.md R105,
41_memory_responder.md R124). -/
def implementsReadAck : Responder → Bool
  | .rtc => false
  | .mem => false

/-- `if active implements read_ack: call active.read_ack(a)` (43_bus_states.md R167). -/
def notifyReadAck (a : Ack) (s : State) : State :=
  match s.active with
  | none => s
  | some r => if implementsReadAck r then emit (.readAck r a) s else s

end Sys2Proof.Machine
end

