-- ==== Sys2Proof/Machine/BusStates.lean ====
section
/-! DEFINITION. The 18 state handlers (43_bus_states.md R160 to R177) and the meanings of their rows. A row
is a pin-change step of its class: see pinEvent and edgeWithResponder in Machine/Ops.lean. -/

namespace Sys2Proof.Machine

/-- One more bit into the inbound shift register (R163, R175). -/
def shiftBit (d : Level) (s : State) : State :=
  { s with srIn := shiftIn s.srIn d, bitCount := s.bitCount + 1 }

/-- Begin a data byte of a write: AckWrite and NackWrite RISE (R169, R171). -/
def beginWriteByte (s : State) : State := { s with busState := .writing, bitCount := 0, srIn := 0x00 }

/-- Begin a data byte of a read (R165, R167). -/
def beginReadByte (s : State) : State := { s with busState := .reading, bitCount := 8 }

/-- Address recognition of a complete address byte (R163). With no responder `active` is none, as 10_state.md
R22 has it (log entry 13). -/
def recogniseAddress (s : State) : State :=
  match lookup (addr7Of s.srIn) s with
  | none => { s with busState := .idle, active := none }
  | some r =>
    let called := callStart r (addr7Of s.srIn) (dirOf s.srIn) s
    match called.2 with
    | .ack => { called.1 with active := some r, busState := afterAddress (dirOf s.srIn) }
    | .nack => { called.1 with busState := .waiting }

/-- Refill the outbound register from the active responder (R172). -/
def refill (s : State) : State :=
  match s.active with
  | none => s
  | some r => { (callRead r s).1 with srOut := (callRead r s).2 }

/-- Drive the next bit, most significant first (R172). -/
def driveNextBit (s : State) : State :=
  driveData (outBit s.srOut (s.bitCount - 1)) { s with bitCount := s.bitCount - 1 }

/-- Hand the received byte to the active responder (R175). -/
def deliverByte (s : State) : State :=
  match s.active with
  | none => s
  | some r => { (callWrite r s.srIn s).1 with busState := afterWrite (callWrite r s.srIn s).2 }

/-! ## Handlers -/

/-- R160 -/
def idleFall (s : State) : State := release s

/-- R161 -/
def idleRise (s : State) : State := s

/-- R162 -/
def addressingFall (s : State) : State := release s

/-- R163 -/
def addressingRise (d : Level) (s : State) : State :=
  let s := shiftBit d s
  if s.bitCount = 8 then recogniseAddress s else s

/-- R164 -/
def ackReadAddrFall (s : State) : State := driveData false s

/-- R165 -/
def ackReadAddrRise (s : State) : State := markTouched (beginReadByte s)

/-- R166 -/
def ackReadFall (s : State) : State := release s

/-- R167 -/
def ackReadRise (d : Level) (s : State) : State :=
  match Ack.ofLevel d with
  | .nack => { notifyReadAck .nack s with busState := .waiting }
  | .ack => beginReadByte (notifyReadAck .ack s)

/-- R168 -/
def ackWriteFall (s : State) : State := driveData false s

/-- R169 -/
def ackWriteRise (s : State) : State := beginWriteByte s

/-- R170 -/
def nackWriteFall (s : State) : State := driveData true s

/-- R171 -/
def nackWriteRise (s : State) : State := beginWriteByte s

/-- R172 -/
def readingFall (s : State) : State :=
  let s := if s.bitCount = 8 then refill s else s
  if s.bitCount = 0 then s else driveNextBit s

/-- R173 -/
def readingRise (s : State) : State := if s.bitCount = 0 then { s with busState := .ackRead } else s

/-- R174 -/
def writingFall (s : State) : State := release s

/-- R175 -/
def writingRise (d : Level) (s : State) : State :=
  let s := shiftBit d s
  if s.bitCount = 8 then deliverByte s else s

/-- R176 -/
def waitingFall (s : State) : State := s

/-- R177 -/
def waitingRise (s : State) : State := s

/-! ## Meanings (`pd` names the previous data level of the word and changes nothing) -/

def execIdleFall (_pd d : Level) (s : State) : Host.Outcome State Fault Refusal :=
  pinEvent false d idleFall s

def execIdleRise (_pd d : Level) (s : State) : Host.Outcome State Fault Refusal :=
  pinEvent true d idleRise s

def execAddressingFall (_pd d : Level) (s : State) : Host.Outcome State Fault Refusal :=
  pinEvent false d addressingFall s

def execAddressingRise (_pd d : Level) (s : State) : Host.Outcome State Fault Refusal :=
  pinEvent true d (addressingRise d) s

def execAckReadAddrFall (_pd d : Level) (s : State) : Host.Outcome State Fault Refusal :=
  pinEvent false d ackReadAddrFall s

def execAckReadAddrRise (_pd d : Level) (s : State) : Host.Outcome State Fault Refusal :=
  pinEvent true d ackReadAddrRise s

def execAckReadFall (_pd d : Level) (s : State) : Host.Outcome State Fault Refusal :=
  pinEvent false d ackReadFall s

def execAckReadRise (_pd d : Level) (s : State) : Host.Outcome State Fault Refusal :=
  pinEvent true d (ackReadRise d) s

def execAckWriteFall (_pd d : Level) (s : State) : Host.Outcome State Fault Refusal :=
  pinEvent false d ackWriteFall s

def execAckWriteRise (_pd d : Level) (s : State) : Host.Outcome State Fault Refusal :=
  pinEvent true d ackWriteRise s

def execNackWriteFall (_pd d : Level) (s : State) : Host.Outcome State Fault Refusal :=
  pinEvent false d nackWriteFall s

def execNackWriteRise (_pd d : Level) (s : State) : Host.Outcome State Fault Refusal :=
  pinEvent true d nackWriteRise s

def execReadingFall (_pd d : Level) (s : State) : Host.Outcome State Fault Refusal :=
  whenUnfaulted (edgeWithResponder false d readingFall) s

def execReadingRise (_pd d : Level) (s : State) : Host.Outcome State Fault Refusal :=
  whenUnfaulted (edgeWithResponder true d readingRise) s

def execWritingFall (_pd d : Level) (s : State) : Host.Outcome State Fault Refusal :=
  whenUnfaulted (edgeWithResponder false d writingFall) s

def execWritingRise (_pd d : Level) (s : State) : Host.Outcome State Fault Refusal :=
  whenUnfaulted (edgeWithResponder true d (writingRise d)) s

def execWaitingFall (_pd d : Level) (s : State) : Host.Outcome State Fault Refusal :=
  pinEvent false d waitingFall s

def execWaitingRise (_pd d : Level) (s : State) : Host.Outcome State Fault Refusal :=
  pinEvent true d waitingRise s

end Sys2Proof.Machine
end

