-- ==== Sys2Proof/Machine/Detect.lean ====
section
/-! DEFINITION. Start and stop detection, dispatch and the pin-change step (42_bus_detection.md), and the
meanings of START, STOP and the NONE rows. -/

namespace Sys2Proof.Machine

/-- R143: the previous responder is dropped without its `stop`. -/
def startCondition (s : State) : State :=
  clearTouched { s with busState := .addressing, bitCount := 0, srIn := 0x00, active := none }

/-- The `stop()` call of an open transaction (R144, 92_eei_decisions.md D7). -/
def closeTransaction (s : State) : State :=
  match s.active with
  | none => s
  | some r => callStop r s

/-- R144 -/
def stopCondition (s : State) : State := { closeTransaction s with active := none, busState := .idle }

/-- R145: nothing but the sample update. -/
def noEdge (s : State) : State := s

/-- The falling-edge handler of a state (R146). -/
def fallHandler : BusState → State → State
  | .idle => idleFall
  | .addressing => addressingFall
  | .ackReadAddr => ackReadAddrFall
  | .ackRead => ackReadFall
  | .ackWrite => ackWriteFall
  | .nackWrite => nackWriteFall
  | .reading => readingFall
  | .writing => writingFall
  | .waiting => waitingFall

/-- The rising-edge handler of a state, with the data sampled (R146). -/
def riseHandler (d : Level) : BusState → State → State
  | .idle => idleRise
  | .addressing => addressingRise d
  | .ackReadAddr => ackReadAddrRise
  | .ackRead => ackReadRise d
  | .ackWrite => ackWriteRise
  | .nackWrite => nackWriteRise
  | .reading => readingRise
  | .writing => writingRise d
  | .waiting => waitingRise

/-- The states whose clock edges need an active responder (R147). -/
def needsResponder : BusState → Bool
  | .reading => true
  | .writing => true
  | .idle => false
  | .addressing => false
  | .ackReadAddr => false
  | .ackRead => false
  | .ackWrite => false
  | .nackWrite => false
  | .waiting => false

/-- `check_responder()` fails (R147). -/
def lacksResponder (s : State) : Bool := needsResponder s.busState && s.active.isNone

/-- A clock edge: the check of R147, the sample update, the handler. -/
def clockEdge (c d : Level) (handler : State → State) (s : State) : State :=
  if lacksResponder s then raiseFault .noActiveResponder s else handler (sample c d s)

/-- `on_pin_change(c, d)` of an unfaulted block (R140). -/
def onPinChange (c d : Level) (s : State) : State :=
  match classify s.prevClock s.prevData c d with
  | .start => startCondition (sample c d s)
  | .stop => stopCondition (sample c d s)
  | .none => noEdge (sample c d s)
  | .fall => clockEdge c d (fallHandler s.busState) s
  | .rise => clockEdge c d (riseHandler d s.busState) s

/-! ## Meanings (`st` names the state before and changes nothing) -/

def execStart (_st : BusState) (s : State) : Host.Outcome State Fault Refusal :=
  pinEvent true false startCondition s

def execStop (_st : BusState) (s : State) : Host.Outcome State Fault Refusal :=
  pinEvent true true stopCondition s

def execNoneClockLow (_st : BusState) (_pd d : Level) (s : State) : Host.Outcome State Fault Refusal :=
  pinEvent false d noEdge s

def execNoneHighSteadyLow (_st : BusState) (s : State) : Host.Outcome State Fault Refusal :=
  pinEvent true false noEdge s

def execNoneHighSteadyHigh (_st : BusState) (s : State) : Host.Outcome State Fault Refusal :=
  pinEvent true true noEdge s

end Sys2Proof.Machine
end

