-- ==== Sys2Proof/Machine/HostOps.lean ====
section
/-! DEFINITION. The entry points of the host: power-on, reset, the save request and the pin change
(70_reset_and_hazards.md R240 to R243, 20_memory.md R62, 42_bus_detection.md R140). -/

namespace Sys2Proof.Machine

/-- R241 with a fresh draw of `DYN`. -/
def storeReset (s : State) : State := { s with store := s.store.storeReset s.draws, draws := s.draws + 1 }

/-- R243 -/
def busReset (mask : Nat) (s : State) : State :=
  { clearTouched (installDevices mask s) with
    busState := .addressing
    bitCount := 0
    srIn := 0x00
    srOut := 0x00
    active := none
    prevClock := true
    prevData := true
    sclOut := true
    sdaOut := true
    rtcReg := 0x0000
    rtcPhase := .addressPhase
    memReg := 0x00 }

/-- R242 of an unfaulted block: the store first, then the bus. -/
def machineReset (mask : Nat) (s : State) : State := busReset mask (storeReset s)

/-- R240: a new process, whose store is a fresh draw of `INITIAL_IMAGE` (20_memory.md R63). -/
def powerOnLoad (s : State) : State :=
  { s with store := Memory.initialImage s.draws, draws := s.draws + 1, fault := none, trace := [] }

/-! ## Meanings -/

/-- R240. It has no fault check: power-on starts a new process (92_eei_decisions.md D40), see log entry 11. -/
def execPowerOn (mask : Nat) (s : State) : Host.Outcome State Fault Refusal :=
  .next (machineReset mask (powerOnLoad s))

def execReset (mask : Nat) (s : State) : Host.Outcome State Fault Refusal :=
  whenUnfaulted (machineReset mask) s

def execSaveRequest (s : State) : Host.Outcome State Fault Refusal :=
  whenUnfaulted save s

def execPinChange (c d : Level) (s : State) : Host.Outcome State Fault Refusal :=
  whenUnfaulted (onPinChange c d) s

end Sys2Proof.Machine
end

