-- ==== Sys2Proof/Machine/Dispatch.lean ====
section
/-! DEFINITION. One arm for each row of spec/opcode_table.json. -/

namespace Sys2Proof.Machine

def exec (i : Instr) (s : State) : Host.Outcome State Fault Refusal :=
  match i with
  | .start st => Sys2Proof.Machine.execStart st s
  | .stop st => Sys2Proof.Machine.execStop st s
  | .noneClockLow st pd d => Sys2Proof.Machine.execNoneClockLow st pd d s
  | .noneHighSteadyLow st => Sys2Proof.Machine.execNoneHighSteadyLow st s
  | .noneHighSteadyHigh st => Sys2Proof.Machine.execNoneHighSteadyHigh st s
  | .idleFall pd d => Sys2Proof.Machine.execIdleFall pd d s
  | .idleRise pd d => Sys2Proof.Machine.execIdleRise pd d s
  | .addressingFall pd d => Sys2Proof.Machine.execAddressingFall pd d s
  | .addressingRise pd d => Sys2Proof.Machine.execAddressingRise pd d s
  | .ackReadAddrFall pd d => Sys2Proof.Machine.execAckReadAddrFall pd d s
  | .ackReadAddrRise pd d => Sys2Proof.Machine.execAckReadAddrRise pd d s
  | .ackReadFall pd d => Sys2Proof.Machine.execAckReadFall pd d s
  | .ackReadRise pd d => Sys2Proof.Machine.execAckReadRise pd d s
  | .ackWriteFall pd d => Sys2Proof.Machine.execAckWriteFall pd d s
  | .ackWriteRise pd d => Sys2Proof.Machine.execAckWriteRise pd d s
  | .nackWriteFall pd d => Sys2Proof.Machine.execNackWriteFall pd d s
  | .nackWriteRise pd d => Sys2Proof.Machine.execNackWriteRise pd d s
  | .readingFall pd d => Sys2Proof.Machine.execReadingFall pd d s
  | .readingRise pd d => Sys2Proof.Machine.execReadingRise pd d s
  | .writingFall pd d => Sys2Proof.Machine.execWritingFall pd d s
  | .writingRise pd d => Sys2Proof.Machine.execWritingRise pd d s
  | .waitingFall pd d => Sys2Proof.Machine.execWaitingFall pd d s
  | .waitingRise pd d => Sys2Proof.Machine.execWaitingRise pd d s
  | .rtcStart addr7 dir => Sys2Proof.Machine.execRtcStart addr7 dir s
  | .rtcWriteAddress b => Sys2Proof.Machine.execRtcWriteAddress b s
  | .rtcWriteData b => Sys2Proof.Machine.execRtcWriteData b s
  | .rtcRead => Sys2Proof.Machine.execRtcRead s
  | .rtcStop => Sys2Proof.Machine.execRtcStop s
  | .rtcReadAck a => Sys2Proof.Machine.execRtcReadAck a s
  | .memStart addr7 dir => Sys2Proof.Machine.execMemStart addr7 dir s
  | .memWrite b => Sys2Proof.Machine.execMemWrite b s
  | .memRead => Sys2Proof.Machine.execMemRead s
  | .memStop => Sys2Proof.Machine.execMemStop s
  | .memReadAck a => Sys2Proof.Machine.execMemReadAck a s
  | .powerOn mask => Sys2Proof.Machine.execPowerOn mask s
  | .reset mask => Sys2Proof.Machine.execReset mask s
  | .saveRequest => Sys2Proof.Machine.execSaveRequest s
  | .pinChange c d => Sys2Proof.Machine.execPinChange c d s

end Sys2Proof.Machine
end

