-- ==== Sys2Proof/Machine/Step.lean ====
section
/-! DEFINITION. One step: the next pending call, decoded and run. -/

namespace Sys2Proof.Machine

/-- Take the next call, decode it, and run it in the state without it. With no call the state holds
(60_exceptions.md R225). A word that encodes no event, or whose state fields are not those of the state,
is refused. -/
def step (s : State) : Host.Outcome State Fault Refusal :=
  match nextCall s with
  | none => .next s
  | some (w, t) =>
    match decode w with
    | .error e => .refused (.undecodable e)
    | .ok i => if describes i t then exec i t else .refused .staleWord

/-- The state whose next step runs the word `w` of spec/opcode_table.json: its one pending call, and the
state fields the word carries (log entries 1 to 3). -/
def State.withFetchWord (s : State) (nbits w : Nat) : State := place (tableEventWord nbits w) s

end Sys2Proof.Machine
end

