-- ==== Sys2Proof/Safety.lean ====
section
/-! DEFINITION. What a safe state is: the conditions of 10_state.md R43 and the canonical form of the
store. -/

namespace Sys2Proof.Machine

/-- The states in which a responder is active (10_state.md R43(d)); Waiting is among them because both
responders acknowledge every `start` (R43(g), 43_bus_states.md R179). -/
def holdsResponder : BusState → Bool
  | .ackReadAddr => true
  | .ackRead => true
  | .ackWrite => true
  | .nackWrite => true
  | .reading => true
  | .writing => true
  | .waiting => true
  | .idle => false
  | .addressing => false

/-- The invariant of every state reachable from power-on. -/
structure State.Inv (s : State) : Prop where
  /-- no fault has been raised (60_exceptions.md R211: unreachable) -/
  unfaulted : s.fault = none
  /-- R43(a) -/
  clockReleased : s.sclOut = true
  /-- R43(b) -/
  rtcRegIsByte : s.rtcReg.toNat ≤ 0xFF
  /-- R43(c) -/
  memRegIsIndex : s.memReg.toNat ≤ 0x7F
  /-- R43(d), (g) -/
  responderHeld : holdsResponder s.busState = true → s.active ≠ none
  /-- a responder is held only then (10_state.md R22) -/
  responderOnlyThen : holdsResponder s.busState = false → s.active = none
  /-- R43(e) -/
  receivedByteUnfinished : s.busState = .addressing ∨ s.busState = .writing → s.bitCount.toNat ≤ 7
  /-- R43(e) -/
  sentByteCount : s.busState = .reading → s.bitCount.toNat ≤ 8
  /-- R43(e) -/
  answerCount : s.busState = .ackRead → s.bitCount = 0
  /-- R43(f) -/
  waitingReleased : s.busState = .waiting → s.sdaOut = true
  /-- what R43(f) rests on: the falling edge of the answer slot has released the line -/
  answerSlotReleased : s.busState = .ackRead → s.prevClock = false → s.sdaOut = true
  /-- 43_bus_states.md R179 -/
  neverNacksWrite : s.busState ≠ .nackWrite
  /-- the store is in canonical form -/
  storeCanonical : s.store.wf = true

end Sys2Proof.Machine
end

