-- ==== Sys2Proof/Certificates/Slice0/Obligations.lean ====
section
/-! DEFINITION. The statements for the provers. A statement whose docstring says "the spec's decision" rests on
a choice of 92_eei_decisions.md; one that says "the model's choice" rests on a log entry. -/

open Sys2Proof Sys2Proof.Machine

/-! ### Words -/

/-- 30_encoding.md R71, R80, R81 (the spec's decision D26; the operand bits are the model's choice, log entry
2): every instruction, with every operand, decodes from its own words. -/
def Obligations.EveryInstructionDecodesFromItsWord : Prop :=
  ∀ i : Instr, decode (encode i) = .ok i

/-- The other direction: an event word that decodes is the encoding of the instruction it gives, so no two
words mean one instruction (the spec's decision D26; operand bits: the model's choice, log entry 2). -/
def Obligations.EveryDecodedWordIsTheEncoding : Prop :=
  ∀ (w : EventWord) (i : Instr), decode w = .ok i → encode i = w

/-- spec/opcode_table.json: whatever decodes under a row's match and mask is that row's instruction. -/
def Obligations.TableRowsSelectTheirInstruction : Prop :=
  ∀ (f : Format) (mnemonic : String) (pattern mask : Byte), (mnemonic, pattern, mask) ∈ opcodeRows f →
    ∀ (code : Byte) (operand : Nat) (i : Instr), code &&& mask = pattern →
      decode { format := f, code := code, operand := operand } = .ok i → i.mnemonic = mnemonic

/-- spec/opcode_table.json: every instruction's word falls under the row of its mnemonic. -/
def Obligations.EveryInstructionHasItsTableRow : Prop :=
  ∀ i : Instr, ∃ pattern mask : Byte,
    (i.mnemonic, pattern, mask) ∈ opcodeRows (encode i).format ∧ (encode i).code &&& mask = pattern

/-- Words written out from 30_encoding.md R71 to R73, R80 and R81 (the spec's decision D26) decode to the
instructions they stand for. The operands 0x5A, 0xA9 and 0b10 of the last three are the model's choice, log
entry 2. -/
def Obligations.WordsOfTheSpecDecode : Prop :=
  decode ⟨.dispatch, 0b0001_1110, 0⟩ = .ok (.start .addressing) ∧
  decode ⟨.dispatch, 0b1000_1011, 0⟩ = .ok (.stop .waiting) ∧
  decode ⟨.dispatch, 0b0111_0001, 0⟩ = .ok (.noneClockLow .writing false true) ∧
  decode ⟨.dispatch, 0b0110_1100, 0⟩ = .ok (.readingFall true false) ∧
  decode ⟨.dispatch, 0b0011_0011, 0⟩ = .ok (.ackReadRise false true) ∧
  decode ⟨.responderCall, 0b00011, 0x5A⟩ = .ok (.rtcWriteData 0x5A) ∧
  decode ⟨.responderCall, 0b10000, 0xA9⟩ = .ok (.memStart 0x54 .read) ∧
  decode ⟨.hostOp, 0b11, 0b10⟩ = .ok (.pinChange true false)

/-- 30_encoding.md R82: state codes 9 to 15 and responder ops 5 to 7 encode nothing, and the decoder rejects
them by name (the spec's decision D26). -/
def Obligations.UnassignedWordsAreRejected : Prop :=
  (∀ (code : Byte) (operand : Nat), 0x90 ≤ code.toNat →
    decode ⟨.dispatch, code, operand⟩ = .error .unassignedStateCode) ∧
  (∀ (code : Byte) (operand : Nat), code.toNat < 32 → 5 ≤ code.toNat / 2 % 8 →
    decode ⟨.responderCall, code, operand⟩ = .error .unusedResponderOp)

/-- 30_encoding.md R72 (the spec's decision D2, D24): the class of each of the 16 samples by the match and mask
pairs of the rule. -/
def Obligations.SampleClassesFollowTheirMasks : Prop :=
  ∀ pc pd c d : Level,
    let v : BitVec 4 := BitVec.ofBool pc ++ BitVec.ofBool pd ++ BitVec.ofBool c ++ BitVec.ofBool d
    (classify pc pd c d = .start ↔ v &&& 0xF = 0xE) ∧
    (classify pc pd c d = .stop ↔ v &&& 0xF = 0xB) ∧
    (classify pc pd c d = .fall ↔ v &&& 0xA = 0x8) ∧
    (classify pc pd c d = .rise ↔ v &&& 0xA = 0x2) ∧
    (classify pc pd c d = .none ↔ v &&& 0xA = 0x0 ∨ v &&& 0xF = 0xA ∨ v &&& 0xF = 0xF)

/-! ### The step -/

/-- 42_bus_detection.md R140, R146 and 30_encoding.md R81: a pin-change call is the event that its dispatch word
decodes to, in every state, the faulted ones included. -/
def Obligations.PinChangeIsTheEventOfItsDispatchWord : Prop :=
  ∀ (s : State) (c d : Level), ∃ i : Instr,
    decode (dispatchWord s.busState s.prevClock s.prevData c d) = .ok i ∧
    describes i s = true ∧
    exec (.pinChange c d) s = exec i s

/-- A step takes the oldest pending call, and runs the instruction it decodes to in the state without it (the
list of calls is the model's choice, log entry 1). A host-op always describes the state. -/
def Obligations.StepRunsThePendingCall : Prop :=
  ∀ (s : State) (w : EventWord) (rest : List EventWord) (i : Instr),
    s.calls = w :: rest → decode w = .ok i →
    describes i { s with calls := rest } = true ∨ w.format = .hostOp →
    step s = exec i { s with calls := rest }

/-- A word of the opcode table placed by withFetchWord is what the next step runs, in the state with the fields
the word carries and no pending call (the model's choice, log entries 1 to 3). -/
def Obligations.PlacedTableWordRunsNext : Prop :=
  ∀ (s : State) (nbits w : Nat) (i : Instr), decodeTableWord nbits w = some i →
    step (s.withFetchWord nbits w) = exec i { carriedFields i s with calls := [] }

/-- 60_exceptions.md R225: if no calls arrive, the state simply holds. -/
def Obligations.StepWithoutCallsHoldsTheState : Prop :=
  ∀ s : State, s.calls = [] → step s = .next s

/-- A pending word that encodes nothing, or that is the word of no call in this state, is refused by name and
runs nothing (the model's choice, log entry 3). -/
def Obligations.UnusableWordsAreRefused : Prop :=
  (∀ (s : State) (w : EventWord) (rest : List EventWord) (e : DecodeError),
    s.calls = w :: rest → decode w = .error e → step s = .refused (.undecodable e)) ∧
  (∀ (s : State) (w : EventWord) (rest : List EventWord) (i : Instr),
    s.calls = w :: rest → decode w = .ok i → describes i { s with calls := rest } = false →
    step s = .refused .staleWord)

/-- 42_bus_detection.md R140, R141, R147 (the spec's decisions D3, D28): a pin change of an unfaulted block
completes unless it is a clock edge of Reading or Writing without a responder; then it has taken the sample and
left the registry and the list of calls alone. -/
def Obligations.PinChangeCompletes : Prop :=
  ∀ (c d : Level) (s : State), s.fault = none →
    (c ≠ s.prevClock → s.busState = .reading ∨ s.busState = .writing → s.active ≠ none) →
    ∃ t, exec (.pinChange c d) s = .next t ∧ t.fault = none ∧ t.prevClock = c ∧ t.prevData = d ∧
      t.rtcEnabled = s.rtcEnabled ∧ t.memEnabled = s.memEnabled ∧ t.calls = s.calls

/-- 42_bus_detection.md R141 (the spec's decision D3): every dispatch row that does not fault leaves the sample of
its word as the previous sample. -/
def Obligations.DispatchRowsTakeTheirSample : Prop :=
  ∀ (i : Instr) (s t : State), (encode i).format = .dispatch → exec i s = .next t → t.fault = none →
    t.prevClock = (encode i).code.getLsbD 1 ∧ t.prevData = (encode i).code.getLsbD 0

/-! ### Invariants and whole-machine rules -/

/-- 10_state.md R43: every step keeps the invariant, whatever call comes next and from every state that meets
it. -/
def Obligations.EveryStepKeepsTheInvariant : Prop :=
  ∀ s t : State, s.Inv → step s = .next t → t.Inv

/-- The state after reset meets the invariant. -/
def Obligations.ResetStateMeetsTheInvariant : Prop := State.reset.Inv

/-- 60_exceptions.md R211 and 10_state.md R43(d): from a state that meets the invariant no step raises the fault
and none is stuck at one. -/
def Obligations.NoFaultFromTheInvariant : Prop :=
  ∀ s : State, s.Inv → (∀ r, step s ≠ .fault r) ∧ (∀ t, step s = .next t → t.fault = none)

/-- 10_state.md R29: no step drives the clock line low. -/
def Obligations.ClockLineIsNeverDrivenLow : Prop :=
  ∀ s t : State, s.sclOut = true → step s = .next t → t.sclOut = true

/-- 70_reset_and_hazards.md R247: a pin change that is no falling clock edge leaves both outputs alone. -/
def Obligations.OutputsChangeOnlyOnFallingEdges : Prop :=
  ∀ (c d : Level) (s t : State), exec (.pinChange c d) s = .next t → ¬(s.prevClock = true ∧ c = false) →
    t.sclOut = s.sclOut ∧ t.sdaOut = s.sdaOut

/-- 10_state.md R30: only POWER_ON and RESET write the enabled devices. -/
def Obligations.EnabledDevicesChangeOnlyAtReset : Prop :=
  ∀ (i : Instr) (s t : State), exec i s = .next t → (∀ mask, i ≠ .powerOn mask) → (∀ mask, i ≠ .reset mask) →
    t.rtcEnabled = s.rtcEnabled ∧ t.memEnabled = s.memEnabled

/-- 20_memory.md R50: the bus reaches the store only through the RTC responder. -/
def Obligations.PinChangeReachesTheStoreOnlyThroughTheRtc : Prop :=
  ∀ (c d : Level) (s t : State), exec (.pinChange c d) s = .next t → s.active ≠ some .rtc → t.store = s.store

/-- 20_memory.md R61 (the spec's decision D35): a pin change appends to the trace, and it requests a save exactly
when it completes an RTC data byte at address 0x3F; the image is the store after that byte. That the save
completes is the spec's decision D22 (deduced, log entry 20). -/
def Obligations.SaveRequestsOfAPinChange : Prop :=
  ∀ (c d : Level) (s : State), s.fault = none →
    ∃ t new, exec (.pinChange c d) s = .next t ∧ t.trace = s.trace ++ new ∧
      (∀ image, Event.save image ∈ new → image = t.store) ∧
      ((∃ image, Event.save image ∈ new) ↔
        s.prevClock = false ∧ c = true ∧ s.busState = .writing ∧ s.bitCount = 7 ∧ s.active = some .rtc ∧
          s.rtcPhase = .dataPhase ∧ s.rtcReg.toNat % 256 = 0x3F)

/-- 42_bus_detection.md R144 (the spec's decision D7): a pin change calls a responder's `stop` exactly when it is
a STOP condition and that responder is active, and then none is active any more. -/
def Obligations.StopCallsOfAPinChange : Prop :=
  ∀ (c d : Level) (s : State), s.fault = none →
    ∃ t new, exec (.pinChange c d) s = .next t ∧ t.trace = s.trace ++ new ∧
      (∀ r, Event.stop r ∈ new ↔
        s.prevClock = true ∧ s.prevData = false ∧ c = true ∧ d = true ∧ s.active = some r) ∧
      ((∃ r, Event.stop r ∈ new) → t.active = none)

/-! ### Start, stop and no edge -/

/-- 42_bus_detection.md R143 (the spec's decisions D6, D8, D9): START drops the transaction without a call and
changes nothing else but the previous sample, which is R141 (the spec's decision D3). -/
def Obligations.StartConditionResult : Prop :=
  ∀ (st : BusState) (s : State), s.fault = none →
    exec (.start st) s = .next { s with
      prevClock := true, prevData := false, busState := .addressing, bitCount := 0, srIn := 0, active := none,
      touched := false }

/-- 42_bus_detection.md R144 (the spec's decisions D6, D7, D8, D36): STOP calls the active responder's `stop`
and returns to Idle; without an active responder it calls nothing. The previous sample is R141 (the spec's
decision D3). -/
def Obligations.StopConditionResult : Prop :=
  ∀ (st : BusState) (s : State), s.fault = none →
    (s.active = some .rtc → exec (.stop st) s = .next { s with
      prevClock := true, prevData := true, busState := .idle, active := none, rtcPhase := .addressPhase,
      trace := s.trace ++ [.stop .rtc] }) ∧
    (s.active = some .mem → exec (.stop st) s = .next { s with
      prevClock := true, prevData := true, busState := .idle, active := none, trace := s.trace ++ [.stop .mem] }) ∧
    (s.active = none → exec (.stop st) s = .next { s with
      prevClock := true, prevData := true, busState := .idle })

/-- 42_bus_detection.md R145 (the spec's decision D25): a call without an edge changes the previous sample
only, as R141 has it (the spec's decision D3). -/
def Obligations.NoEdgeResult : Prop :=
  ∀ (st : BusState) (pd d : Level) (s : State), s.fault = none →
    exec (.noneClockLow st pd d) s = .next { s with prevClock := false, prevData := d } ∧
    exec (.noneHighSteadyLow st) s = .next { s with prevClock := true, prevData := false } ∧
    exec (.noneHighSteadyHigh st) s = .next { s with prevClock := true, prevData := true }

/-! ### State handlers (what they leave as the previous sample is DispatchRowsTakeTheirSample) -/

/-- 43_bus_states.md R160, R162, R166: the falling edges of Idle, Addressing and AckRead release both lines. -/
def Obligations.ReleasingFallsReleaseBothLines : Prop :=
  ∀ (i : Instr) (pd d : Level) (s : State), i ∈ [.idleFall pd d, .addressingFall pd d, .ackReadFall pd d] →
    s.fault = none →
    ∃ pc' pd', exec i s = .next { s with sclOut := true, sdaOut := true, prevClock := pc', prevData := pd' }

/-- 43_bus_states.md R174: the falling edge of Writing releases both lines. Without a responder it is the fault
of 42_bus_detection.md R147 (the spec's decision D28), as a next state (deduced, log entry 12). -/
def Obligations.WritingFallReleasesBothLines : Prop :=
  ∀ (pd d : Level) (s : State), s.fault = none →
    (s.active ≠ none → ∃ pc' pd', exec (.writingFall pd d) s =
      .next { s with sclOut := true, sdaOut := true, prevClock := pc', prevData := pd' }) ∧
    (s.active = none → ∃ t, exec (.writingFall pd d) s = .next t ∧ t.fault = some .noActiveResponder)

/-- 43_bus_states.md R164, R168: the falling edges of AckReadAddr and AckWrite drive data low. -/
def Obligations.AcknowledgingFallsDriveDataLow : Prop :=
  ∀ (i : Instr) (pd d : Level) (s : State), i ∈ [.ackReadAddrFall pd d, .ackWriteFall pd d] → s.fault = none →
    ∃ pc' pd', exec i s = .next { s with sdaOut := false, prevClock := pc', prevData := pd' }

/-- 43_bus_states.md R170: the falling edge of NackWrite drives data high. -/
def Obligations.NackWriteFallDrivesDataHigh : Prop :=
  ∀ (pd d : Level) (s : State), s.fault = none →
    ∃ pc' pd', exec (.nackWriteFall pd d) s = .next { s with sdaOut := true, prevClock := pc', prevData := pd' }

/-- 43_bus_states.md R161, R176, R177: the rising edge of Idle and both edges of Waiting change nothing. -/
def Obligations.EdgesOfIdleRiseAndWaitingChangeNothing : Prop :=
  ∀ (i : Instr) (pd d : Level) (s : State), i ∈ [.idleRise pd d, .waitingFall pd d, .waitingRise pd d] →
    s.fault = none →
    ∃ pc' pd', exec i s = .next { s with prevClock := pc', prevData := pd' }

/-- 43_bus_states.md R165: the rising edge of AckReadAddr begins a read byte and marks the transaction. -/
def Obligations.AckReadAddrRiseBeginsReading : Prop :=
  ∀ (pd d : Level) (s : State), s.fault = none →
    ∃ pc' pd', exec (.ackReadAddrRise pd d) s =
      .next { s with busState := .reading, bitCount := 8, touched := true, prevClock := pc', prevData := pd' }

/-- 43_bus_states.md R169, R171: the rising edges of AckWrite and NackWrite begin a written byte. -/
def Obligations.WriteAnswerRisesBeginWriting : Prop :=
  ∀ (i : Instr) (pd d : Level) (s : State), i ∈ [.ackWriteRise pd d, .nackWriteRise pd d] → s.fault = none →
    ∃ pc' pd', exec i s =
      .next { s with busState := .writing, bitCount := 0, srIn := 0, prevClock := pc', prevData := pd' }

/-- 43_bus_states.md R167 (the spec's decision D38): the controller's NACK ends the read in Waiting, its ACK asks
for another byte, and no responder is told. -/
def Obligations.AckReadRiseSamplesTheAnswer : Prop :=
  ∀ (pd : Level) (s : State), s.fault = none →
    exec (.ackReadRise pd true) s = .next { s with busState := .waiting, prevClock := true, prevData := true } ∧
    exec (.ackReadRise pd false) s =
      .next { s with busState := .reading, bitCount := 8, prevClock := true, prevData := false }

/-- 43_bus_states.md R173: the rising edge of Reading moves to AckRead at count 0 and else changes nothing.
Without a responder it is the fault of 42_bus_detection.md R147 (the spec's decision D28), as a next state
(deduced, log entry 12). -/
def Obligations.ReadingRiseEndsTheByteAtZero : Prop :=
  ∀ (pd d : Level) (s : State), s.fault = none →
    (s.active ≠ none → s.bitCount = 0 → ∃ pc' pd', exec (.readingRise pd d) s =
      .next { s with busState := .ackRead, prevClock := pc', prevData := pd' }) ∧
    (s.active ≠ none → s.bitCount ≠ 0 → ∃ pc' pd', exec (.readingRise pd d) s =
      .next { s with prevClock := pc', prevData := pd' }) ∧
    (s.active = none → ∃ t, exec (.readingRise pd d) s = .next t ∧ t.fault = some .noActiveResponder)

/-- 43_bus_states.md R163 with 44_registry.md R202 (the spec's decisions D3, D5, D31, D33, D41): the address bit is
shifted in; the eighth one addresses the RTC by 0xA0 and 0xA1, the EEPROM by 0xA8 and 0xA9, each only when
enabled, and any other byte returns to Idle without an event. That no responder is active then is 10_state.md
R22 (log entry 13). -/
def Obligations.AddressingRiseShiftsAndRecognises : Prop :=
  ∀ (pd d : Level) (s : State), s.fault = none →
    let byte : Byte := (s.srIn <<< 1) ||| (if d then 1 else 0)
    let shifted : State := { s with srIn := byte, bitCount := s.bitCount + 1, prevClock := true, prevData := d }
    (s.bitCount ≠ 7 → exec (.addressingRise pd d) s = .next shifted) ∧
    (s.bitCount = 7 → byte = 0xA1 → s.rtcEnabled = true → exec (.addressingRise pd d) s = .next { shifted with
      active := some .rtc, busState := .ackReadAddr, rtcPhase := .addressPhase,
      trace := s.trace ++ [.start .rtc 0x50 .read .ack] }) ∧
    (s.bitCount = 7 → byte = 0xA0 → s.rtcEnabled = true → exec (.addressingRise pd d) s = .next { shifted with
      active := some .rtc, busState := .ackWrite, rtcPhase := .addressPhase,
      trace := s.trace ++ [.start .rtc 0x50 .write .ack] }) ∧
    (s.bitCount = 7 → byte = 0xA9 → s.memEnabled = true → exec (.addressingRise pd d) s = .next { shifted with
      active := some .mem, busState := .ackReadAddr, trace := s.trace ++ [.start .mem 0x54 .read .ack] }) ∧
    (s.bitCount = 7 → byte = 0xA8 → s.memEnabled = true → exec (.addressingRise pd d) s = .next { shifted with
      active := some .mem, busState := .ackWrite, trace := s.trace ++ [.start .mem 0x54 .write .ack] }) ∧
    (s.bitCount = 7 → ¬((byte = 0xA0 ∨ byte = 0xA1) ∧ s.rtcEnabled = true) →
      ¬((byte = 0xA8 ∨ byte = 0xA9) ∧ s.memEnabled = true) →
      exec (.addressingRise pd d) s = .next { shifted with active := none, busState := .idle })

/-- 43_bus_states.md R175 (with the spec's decisions D3, D10, D31): the data bit is shifted in; the eighth one
hands the byte to the active responder's `write`, whose ACK leads to AckWrite. -/
def Obligations.WritingRiseShiftsAndDelivers : Prop :=
  ∀ (pd d : Level) (r : Responder) (s : State), s.fault = none → s.active = some r →
    let byte : Byte := (s.srIn <<< 1) ||| (if d then 1 else 0)
    let shifted : State := { s with srIn := byte, bitCount := s.bitCount + 1, prevClock := true, prevData := d }
    let delivery : Instr :=
      match r, s.rtcPhase with
      | .rtc, .addressPhase => .rtcWriteAddress byte
      | .rtc, .dataPhase => .rtcWriteData byte
      | .mem, _ => .memWrite byte
    (s.bitCount ≠ 7 → exec (.writingRise pd d) s = .next shifted) ∧
    (s.bitCount = 7 → ∃ u, exec delivery shifted = .next u ∧
      exec (.writingRise pd d) s = .next { u with busState := .ackWrite })

/-- 43_bus_states.md R172 (with the spec's decisions D3, D11, D32): at count 8 the byte comes from the active
responder's `read`; each falling edge drives the next bit, most significant first; at count 0 nothing
happens. -/
def Obligations.ReadingFallDrivesTheNextBit : Prop :=
  ∀ (pd d : Level) (r : Responder) (s : State), s.fault = none → s.active = some r →
    let fetch : Instr := match r with
      | .rtc => .rtcRead
      | .mem => .memRead
    (s.bitCount = 0 → exec (.readingFall pd d) s = .next { s with prevClock := false, prevData := d }) ∧
    (0 < s.bitCount.toNat → s.bitCount.toNat < 8 → exec (.readingFall pd d) s = .next { s with
      prevClock := false, prevData := d, bitCount := s.bitCount - 1,
      sdaOut := s.srOut.getLsbD (s.bitCount.toNat - 1) }) ∧
    (s.bitCount = 8 → ∃ (u : State) (v : Byte), exec fetch s = .next u ∧ u.trace = s.trace ++ [.read r v] ∧
      exec (.readingFall pd d) s = .next { u with
        prevClock := false, prevData := d, srOut := v, bitCount := 7, sdaOut := v.getLsbD 7 })

/-! ### The fault -/

/-- 42_bus_detection.md R147 (the spec's decision D28): a clock edge of Reading or Writing without an active
responder records the fault and changes nothing else, as a row and as a pin change. That the call answers a
next state is deduced, log entry 12. -/
def Obligations.MissingResponderRaisesTheFault : Prop :=
  (∀ (i : Instr) (pd d : Level) (s : State),
    i ∈ [.readingFall pd d, .readingRise pd d, .writingFall pd d, .writingRise pd d] →
    s.fault = none → s.active = none → exec i s = .next { s with fault := some .noActiveResponder }) ∧
  (∀ (c d : Level) (s : State), s.busState = .reading ∨ s.busState = .writing → c ≠ s.prevClock →
    s.fault = none → s.active = none →
    exec (.pinChange c d) s = .next { s with fault := some .noActiveResponder })

/-- 60_exceptions.md R210 (the spec's decision D21): a faulted block takes no further step; only POWER_ON, a new
process, does not stop there (the model's choice, log entry 11). -/
def Obligations.FaultedBlockTakesNoStep : Prop :=
  ∀ (i : Instr) (r : Fault) (s : State), s.fault = some r → (∀ mask, i ≠ .powerOn mask) → exec i s = .fault r

/-! ### The RTC responder -/

/-- 40_rtc_responder.md R100: `start` resets to AddressPhase, keeps the register and always acknowledges. -/
def Obligations.RtcStartResult : Prop :=
  ∀ (addr7 : BitVec 7) (dir : Direction) (s : State), s.fault = none →
    exec (.rtcStart addr7 dir) s = .next { s with
      rtcPhase := .addressPhase, trace := s.trace ++ [.start .rtc addr7 dir .ack] }

/-- 40_rtc_responder.md R101: the register-address write. -/
def Obligations.RtcAddressWriteResult : Prop :=
  ∀ (b : Byte) (s : State), s.fault = none →
    exec (.rtcWriteAddress b) s = .next { s with
      rtcReg := BitVec.ofNat 16 b.toNat, rtcPhase := .dataPhase, trace := s.trace ++ [.write .rtc b .ack] }

/-- 40_rtc_responder.md R102: the data write stores the byte at `rtc_reg[7:0]` and nowhere else, saves after
storing at 0x3F, and advances the register modulo 256. That the image is the store after the write is the
spec's decision D35, and that the save completes its decision D22 (deduced, log entry 20). The canonical form
is the model's choice, log entry 10. -/
def Obligations.RtcDataWriteResult : Prop :=
  ∀ (b : Byte) (s : State), s.fault = none → s.store.wf = true →
    ∃ t, exec (.rtcWriteData b) s = .next t ∧
      t = { s with
        store := t.store
        rtcReg := BitVec.ofNat 16 ((s.rtcReg.toNat + 1) % 256)
        trace := s.trace ++ [.write .rtc b .ack] ++
          (if s.rtcReg.toNat % 256 = 0x3F then [.save t.store] else []) } ∧
      t.store.read (s.rtcReg.toNat % 256) = b ∧
      (∀ a, a ≠ s.rtcReg.toNat % 256 → t.store.read a = s.store.read a) ∧
      t.store.wf = true

/-- 40_rtc_responder.md R103 at an address of 0x10 or above (the spec's decision D11): the byte at
`rtc_reg[7:0]`, no time overwrite, and the register advances modulo 256. -/
def Obligations.RtcReadAboveTheTimeWindow : Prop :=
  ∀ s : State, s.fault = none → 0x10 ≤ s.rtcReg.toNat →
    exec .rtcRead s = .next { s with
      rtcReg := BitVec.ofNat 16 ((s.rtcReg.toNat + 1) % 256)
      trace := s.trace ++ [.read .rtc (s.store.read (s.rtcReg.toNat % 256))] }

/-- 40_rtc_responder.md R103 and R106 below 0x10 (the spec's decisions D15, D29; the free draw and its counter are
the model's choice, log entry 5; the BCD digit order is presumed, log entry 15): bytes 0x01 to 0x06 are
rewritten from a fresh time draw, whatever it is, no other byte changes, and the byte at the register is read
afterwards. The canonical form is the model's choice, log entry 10. -/
def Obligations.RtcReadInTheTimeWindow : Prop :=
  ∀ s : State, s.fault = none → s.store.wf = true → s.rtcReg.toNat < 0x10 →
    let time := Config.timeSample s.draws
    let digits (v : Nat) : Nat := 16 * (v / 10) + v % 10
    ∃ t, exec .rtcRead s = .next t ∧
      t = { s with
        store := t.store
        draws := s.draws + 1
        rtcReg := s.rtcReg + 1
        trace := s.trace ++ [.read .rtc (t.store.read s.rtcReg.toNat)] } ∧
      t.store.read 0x01 = 0 ∧
      t.store.read 0x02 = BitVec.ofNat 8 (digits time.seconds) ∧
      t.store.read 0x03 = BitVec.ofNat 8 (digits time.minutes) ∧
      t.store.read 0x04 = BitVec.ofNat 8 (digits time.hours) ∧
      t.store.read 0x05 = BitVec.ofNat 8 (64 * (time.year % 4) + digits time.day) ∧
      t.store.read 0x06 = BitVec.ofNat 8 (32 * time.weekday + digits time.month) ∧
      (∀ a, a = 0x00 ∨ 0x07 ≤ a → t.store.read a = s.store.read a) ∧
      t.store.wf = true

/-- 40_rtc_responder.md R104: `stop` resets to AddressPhase and keeps the register. -/
def Obligations.RtcStopResult : Prop :=
  ∀ s : State, s.fault = none →
    exec .rtcStop s = .next { s with rtcPhase := .addressPhase, trace := s.trace ++ [.stop .rtc] }

/-- 40_rtc_responder.md R105 and 41_memory_responder.md R124 (the spec's decision D38): `read_ack` emits no event
and changes no state. The rules say the block never issues the call; that the row completes when it stands in
the list of calls is the model's deduction, log entry 16. -/
def Obligations.ReadAckChangesNothing : Prop :=
  ∀ (a : Ack) (s : State), s.fault = none →
    exec (.rtcReadAck a) s = .next s ∧ exec (.memReadAck a) s = .next s

/-! ### The EEPROM responder -/

/-- 41_memory_responder.md R120: `start` keeps the register and always acknowledges. -/
def Obligations.MemStartResult : Prop :=
  ∀ (addr7 : BitVec 7) (dir : Direction) (s : State), s.fault = none →
    exec (.memStart addr7 dir) s = .next { s with trace := s.trace ++ [.start .mem addr7 dir .ack] }

/-- 41_memory_responder.md R121 (its ACK is the spec's decision D10): every write sets the 7-bit register. -/
def Obligations.MemWriteResult : Prop :=
  ∀ (b : Byte) (s : State), s.fault = none →
    exec (.memWrite b) s = .next { s with
      memReg := BitVec.ofNat 8 (b.toNat % 128), trace := s.trace ++ [.write .mem b .ack] }

/-- 41_memory_responder.md R122: the table's byte at the register, which then advances modulo 128. -/
def Obligations.MemReadResult : Prop :=
  ∀ s : State, s.fault = none → s.memReg.toNat ≤ 0x7F →
    exec .memRead s = .next { s with
      memReg := BitVec.ofNat 8 ((s.memReg.toNat + 1) % 128)
      trace := s.trace ++ [.read .mem (Config.spdTable (BitVec.ofNat 7 s.memReg.toNat))] }

/-- 41_memory_responder.md R123: `stop` changes no state but the trace. -/
def Obligations.MemStopResult : Prop :=
  ∀ s : State, s.fault = none → exec .memStop s = .next { s with trace := s.trace ++ [.stop .mem] }

/-! ### Saving, reset and power-on -/

/-- 20_memory.md R62 (the spec's decision D23): a save request emits the store and changes nothing else. That
the save completes is the spec's decision D22 (deduced, log entry 20). -/
def Obligations.SaveRequestResult : Prop :=
  ∀ s : State, s.fault = none → exec .saveRequest s = .next { s with trace := s.trace ++ [.save s.store] }

/-- 20_memory.md R60: the checksum of the 239 bytes 0x40 to 0xFF and 0x10 to 0x3E is stored at 0x3F, and no other
byte changes. The hypothesis is the model's canonical form of the store, log entry 10. -/
def Obligations.ChecksumCoversTheOtherPersistentBytes : Prop :=
  ∀ m : Memory, m.wf = true →
    let sum := ((List.range' 0x40 192 ++ List.range' 0x10 47).map fun a => (m.read a).toNat).sum
    m.recomputeChecksum.read 0x3F = BitVec.ofNat 8 ((sum + 1) % 256) ∧
    ∀ a, a ≠ 0x3F → m.recomputeChecksum.read a = m.read a

/-- 70_reset_and_hazards.md R241, R242, R243 (the spec's decisions D4, D13, D16, D18, D19, D20, D30, D39; the free
`DYN` and its counter are the model's choice, log entry 6, and so are the pending calls, log entry 1): what
RESET leaves in every field and every byte. The canonical form is the model's choice, log entry 10. -/
def Obligations.ResetResult : Prop :=
  ∀ (mask : Nat) (s : State), s.fault = none →
    ∃ t, exec (.reset mask) s = .next t ∧
      t = { State.reset with
        rtcEnabled := mask.testBit Config.maskBitRtc
        memEnabled := mask.testBit Config.maskBitMem
        store := t.store
        trace := s.trace
        calls := s.calls
        draws := s.draws + 1 } ∧
      (∀ a, a < 0x10 → t.store.read a = 0) ∧
      (∀ a, 0x10 ≤ a → a < 0x100 → a ≠ 0x3F → t.store.read a = Config.dyn s.draws s.store.read a) ∧
      t.store.read 0x3F = BitVec.ofNat 8
        (((List.range' 0x40 192 ++ List.range' 0x10 47).map fun a => (t.store.read a).toNat).sum + 1) ∧
      t.store.wf = true

/-- 70_reset_and_hazards.md R240 (the spec's decisions D17, D40, D43; the free image is the model's choice, log
entry 7): POWER_ON completes in every state, with no fault and an empty trace, and then resets. That it
completes in a faulted state too is the model's deduction, log entry 11. -/
def Obligations.PowerOnResult : Prop :=
  ∀ (mask : Nat) (s : State),
    ∃ t image, exec (.powerOn mask) s = .next t ∧ t.fault = none ∧ t.trace = [] ∧
      (∀ a, a < 0x100 → Memory.read image a = Config.initialImage s.draws a) ∧
      exec (.reset mask) { s with store := image, draws := s.draws + 1, fault := none, trace := [] } = .next t

/-- The state after reset, written out: the values of 70_reset_and_hazards.md R243 (the spec's decisions D4, D18,
D19, D20), and the power-on that reaches it (the model's choice, log entry 9). -/
def Obligations.ResetStateIsAPowerOn : Prop :=
  (State.reset.busState = .addressing ∧ State.reset.active = none ∧ State.reset.srIn = 0 ∧ State.reset.srOut = 0 ∧
    State.reset.bitCount = 0 ∧ State.reset.prevClock = true ∧ State.reset.prevData = true ∧
    State.reset.touched = false ∧ State.reset.sclOut = true ∧ State.reset.sdaOut = true ∧
    State.reset.rtcReg = 0 ∧ State.reset.rtcPhase = .addressPhase ∧ State.reset.memReg = 0 ∧
    State.reset.fault = none ∧ State.reset.trace = []) ∧
  ∀ s : State, s.draws = 0 → exec (.powerOn Config.sessionMask) s = .next { State.reset with calls := s.calls }

/-! ### Sequences and formats -/

/-- 70_reset_and_hazards.md R248: after the controller's ACK of a read byte, the next falling edge calls `read`
at once. -/
def Obligations.AcknowledgedReadPrefetches : Prop :=
  ∀ (pd pd' d' : Level) (r : Responder) (s : State), s.fault = none → s.active = some r →
    ∃ t u v, exec (.ackReadRise pd false) s = .next t ∧ exec (.readingFall pd' d') t = .next u ∧
      u.trace = s.trace ++ [.read r v] ∧ u.srOut = v ∧ u.sdaOut = v.getLsbD 7 ∧ u.bitCount = 7 ∧
      (r = .rtc → u.rtcReg = BitVec.ofNat 16 ((s.rtcReg.toNat + 1) % 256)) ∧
      (r = .mem → u.memReg = BitVec.ofNat 8 ((s.memReg.toNat + 1) % 128))

/-- 30_encoding.md R76: eight sampled bits, most significant first, are the byte, whatever the register held. -/
def Obligations.EightBitsShiftInAByte : Prop :=
  ∀ x before : Byte,
    [x.getLsbD 7, x.getLsbD 6, x.getLsbD 5, x.getLsbD 4, x.getLsbD 3, x.getLsbD 2, x.getLsbD 1, x.getLsbD 0].foldl
      shiftIn before = x

/-- 30_encoding.md R79 (the spec's decisions D15, D29): within the admitted ranges the fields of bytes 0x05 and
0x06 do not overlap. -/
def Obligations.TimeByteFieldsDoNotOverlap : Prop :=
  ∀ t : TimeSample,
    ((yearDayByte t).extractLsb' 6 2).toNat = t.year % 4 ∧
    ((yearDayByte t).extractLsb' 0 6).toNat = 16 * (t.day / 10) + t.day % 10 ∧
    ((weekdayMonthByte t).extractLsb' 5 3).toNat = t.weekday ∧
    ((weekdayMonthByte t).extractLsb' 0 5).toNat = 16 * (t.month / 10) + t.month % 10

/-- 44_registry.md R201 (the spec's decision D13): the two mask bits are different bits, so each device is enabled
on its own. -/
def Obligations.EachDeviceIsEnabledOnItsOwn : Prop :=
  ∀ rtc mem : Bool, ∃ mask : Nat, maskEnablesRtc mask = rtc ∧ maskEnablesMem mask = mem
end

