-- ==== Sys2Proof/Laws/Decode.lean ====
section
/-! SUPPORT. The codes and words of the decoder: each code read back, and each dispatch word decoded to the
row its fields select. -/

namespace Sys2Proof

@[simp] theorem BusState.ofCode_code (st : BusState) : BusState.ofCode st.code = some st := by
  cases st <;> rfl

/-- Only the nine codes of 30_encoding.md R73 encode a state. -/
theorem BusState.code_of_ofCode {c : BitVec 4} {st : BusState} (h : BusState.ofCode c = some st) : st.code = c := by
  revert h
  revert c
  cases st <;> decide

@[simp] theorem Direction.ofBit_toBit (d : Direction) : Direction.ofBit d.toBit = d := by cases d <;> rfl

@[simp] theorem Ack.ofLevel_level (a : Ack) : Ack.ofLevel a.level = a := by cases a <;> rfl

theorem addr7Of_addressByte (a : BitVec 7) (d : Direction) : addr7Of (addressByte a d) = a := by
  cases d <;> (revert a; decide)

theorem dirOf_addressByte (a : BitVec 7) (d : Direction) : dirOf (addressByte a d) = d := by
  cases d <;> (revert a; decide)

/-- The state field of a dispatch word (30_encoding.md R71). -/
theorem dispatchCode_state (st : BusState) (pc pd c d : Level) :
    (dispatchCode st pc pd c d).extractLsb' 4 4 = st.code := by
  cases st <;> cases pc <;> cases pd <;> cases c <;> cases d <;> rfl

/-- The sample fields of a dispatch word (30_encoding.md R71). -/
theorem dispatchCode_sample (st : BusState) (pc pd c d : Level) :
    (dispatchCode st pc pd c d).getLsbD 3 = pc ∧ (dispatchCode st pc pd c d).getLsbD 2 = pd ∧
      (dispatchCode st pc pd c d).getLsbD 1 = c ∧ (dispatchCode st pc pd c d).getLsbD 0 = d := by
  cases st <;> cases pc <;> cases pd <;> cases c <;> cases d <;> exact ⟨rfl, rfl, rfl, rfl⟩

/-- A dispatch word decodes to the row that its fields select. -/
theorem decode_dispatchWord (st : BusState) (pc pd c d : Level) :
    decode (dispatchWord st pc pd c d) = .ok (dispatchInstr st pc pd c d) := by
  obtain ⟨h3, h2, h1, h0⟩ := dispatchCode_sample st pc pd c d
  simp only [decode, decodeDispatch, dispatchWord, dispatchCode_state, BusState.ofCode_code, h3, h2, h1, h0,
    withoutOperand, if_true]

theorem withByte_toNat (b : Byte) (k : Byte → Instr) : withByte b.toNat k = .ok (k b) := by
  unfold withByte
  rw [if_pos b.isLt, BitVec.ofNat_toNat, BitVec.setWidth_eq]

theorem withLevel_toNat (l : Level) (k : Level → Instr) : withLevel l.toNat k = .ok (k l) := by
  cases l <;> rfl

/-! ### Responder-call words with an operand -/

theorem decode_rtcStartWord (n : Nat) :
    decode (responderWord 0b00000 n) = withByte n fun a => .rtcStart (addr7Of a) (dirOf a) := by
  simp [decode, responderWord, decodeResponderCall]

theorem decode_rtcWriteAddressWord (n : Nat) : decode (responderWord 0b00010 n) = withByte n .rtcWriteAddress := by
  simp [decode, responderWord, decodeResponderCall]

theorem decode_rtcWriteDataWord (n : Nat) : decode (responderWord 0b00011 n) = withByte n .rtcWriteData := by
  simp [decode, responderWord, decodeResponderCall]

theorem decode_rtcReadAckWord (n : Nat) :
    decode (responderWord 0b01000 n) = withLevel n fun l => .rtcReadAck (Ack.ofLevel l) := by
  simp [decode, responderWord, decodeResponderCall]

theorem decode_memStartWord (n : Nat) :
    decode (responderWord 0b10000 n) = withByte n fun a => .memStart (addr7Of a) (dirOf a) := by
  simp [decode, responderWord, decodeResponderCall]

theorem decode_memWriteWord (n : Nat) : decode (responderWord 0b10010 n) = withByte n .memWrite := by
  simp [decode, responderWord, decodeResponderCall]

theorem decode_memReadAckWord (n : Nat) :
    decode (responderWord 0b11000 n) = withLevel n fun l => .memReadAck (Ack.ofLevel l) := by
  simp [decode, responderWord, decodeResponderCall]

end Sys2Proof
end

