-- ==== Sys2Proof/Laws/Memory.lean ====
section
/-! SUPPORT. The store: read after write, the canonical form kept by every operation, and equality of
canonical stores from equality of their bytes. -/

namespace Sys2Proof.Machine

theorem Memory.risingFrom_cons {lo k : Nat} {v : Byte} {m : Memory} :
    Memory.risingFrom lo ((k, v) :: m) = true ↔
      lo ≤ k ∧ k < 256 ∧ v ≠ Memory.unlisted ∧ Memory.risingFrom (k + 1) m = true := by
  rw [Memory.risingFrom]
  simp only [Bool.and_eq_true, decide_eq_true_eq, bne_iff_ne, and_assoc]
  rfl

theorem Memory.risingFrom_mono {m : Memory} {lo lo' : Nat} (hle : lo' ≤ lo) (h : Memory.risingFrom lo m = true) :
    Memory.risingFrom lo' m = true := by
  cases m with
  | nil => rfl
  | cons e m =>
    obtain ⟨k, v⟩ := e
    rw [Memory.risingFrom_cons] at h ⊢
    exact ⟨by omega, h.2⟩

/-- Below its first address a canonical store lists nothing. -/
theorem Memory.read_below {m : Memory} {lo a : Nat} (h : Memory.risingFrom lo m = true) (ha : a < lo) :
    m.read a = Memory.unlisted := by
  induction m generalizing lo with
  | nil => rfl
  | cons e m ih =>
    obtain ⟨k, v⟩ := e
    rw [Memory.risingFrom_cons] at h
    have hk : k ≠ a := by omega
    rw [Memory.read, if_neg hk]
    exact ih h.2.2.2 (by omega)

theorem Memory.read_consUnlessUnlisted {m : Memory} {a b : Nat} {v : Byte}
    (h : Memory.risingFrom (a + 1) m = true) :
    (Memory.consUnlessUnlisted a v m).read b = if b = a then v else m.read b := by
  unfold Memory.consUnlessUnlisted
  by_cases hb : b = a
  · subst hb
    split
    · next hv => rw [if_pos rfl, Memory.read_below h (by omega), hv]
    · rw [Memory.read, if_pos rfl]
  · rw [if_neg hb]
    split
    · rfl
    · rw [Memory.read, if_neg (Ne.symm hb)]

theorem Memory.risingFrom_consUnlessUnlisted {m : Memory} {lo a : Nat} {v : Byte} (hlo : lo ≤ a) (ha : a < 256)
    (h : Memory.risingFrom (a + 1) m = true) : Memory.risingFrom lo (Memory.consUnlessUnlisted a v m) = true := by
  unfold Memory.consUnlessUnlisted
  split
  · exact Memory.risingFrom_mono (by omega) h
  · next hv => exact Memory.risingFrom_cons.2 ⟨hlo, ha, hv, h⟩

theorem Memory.read_write_from {m : Memory} {lo a b : Nat} {v : Byte} (h : Memory.risingFrom lo m = true) :
    (m.write a v).read b = if b = a then v else m.read b := by
  induction m generalizing lo with
  | nil => exact Memory.read_consUnlessUnlisted rfl
  | cons e m ih =>
    obtain ⟨k, u⟩ := e
    have h' := Memory.risingFrom_cons.1 h
    rw [Memory.write]
    split
    · next hak =>
      exact Memory.read_consUnlessUnlisted (Memory.risingFrom_cons.2 ⟨by omega, h'.2⟩)
    · split
      · next hak =>
        subst hak
        rw [Memory.read_consUnlessUnlisted h'.2.2.2]
        split
        · rfl
        · next hb => rw [Memory.read, if_neg (Ne.symm hb)]
      · next hlt hne =>
        rw [Memory.read, Memory.read, ih h'.2.2.2]
        by_cases hkb : k = b
        · subst hkb
          simp [Ne.symm hne]
        · simp [hkb]

/-- A read after a write (20_memory.md R55): the byte written at its address, the old byte elsewhere. -/
theorem Memory.read_write {m : Memory} (h : m.wf = true) (a b : Nat) (v : Byte) :
    (m.write a v).read b = if b = a then v else m.read b :=
  Memory.read_write_from h

theorem Memory.risingFrom_write {m : Memory} {lo a : Nat} {v : Byte} (hlo : lo ≤ a) (ha : a < 256)
    (h : Memory.risingFrom lo m = true) : Memory.risingFrom lo (m.write a v) = true := by
  induction m generalizing lo with
  | nil => exact Memory.risingFrom_consUnlessUnlisted hlo ha rfl
  | cons e m ih =>
    obtain ⟨k, u⟩ := e
    have h' := Memory.risingFrom_cons.1 h
    rw [Memory.write]
    split
    · exact Memory.risingFrom_consUnlessUnlisted hlo ha (Memory.risingFrom_cons.2 ⟨by omega, h'.2⟩)
    · split
      · next hak => exact Memory.risingFrom_consUnlessUnlisted hlo ha (hak ▸ h'.2.2.2)
      · exact Memory.risingFrom_cons.2 ⟨h'.1, h'.2.1, h'.2.2.1, ih (by omega) h'.2.2.2⟩

/-- A write keeps the canonical form. -/
theorem Memory.wf_write {m : Memory} (h : m.wf = true) {a : Nat} (ha : a < 256) (v : Byte) : (m.write a v).wf = true :=
  Memory.risingFrom_write (Nat.zero_le a) ha h

theorem Memory.risingFrom_tabulate (f : Nat → Byte) (n lo : Nat) (h : lo + n ≤ 256) :
    Memory.risingFrom lo (Memory.tabulate f n lo) = true := by
  induction n generalizing lo with
  | zero => rfl
  | succ n ih => exact Memory.risingFrom_consUnlessUnlisted (Nat.le_refl lo) (by omega) (ih (lo + 1) (by omega))

theorem Memory.read_tabulate (f : Nat → Byte) (n lo a : Nat) (h : lo + n ≤ 256) :
    (Memory.tabulate f n lo).read a = if lo ≤ a ∧ a < lo + n then f a else Memory.unlisted := by
  induction n generalizing lo with
  | zero =>
    rw [Memory.tabulate, Memory.read, if_neg (by omega)]
  | succ n ih =>
    rw [Memory.tabulate, Memory.read_consUnlessUnlisted (Memory.risingFrom_tabulate f n (lo + 1) (by omega)),
      ih (lo + 1) (by omega)]
    by_cases hlo : a = lo
    · subst hlo
      simp
    · rw [if_neg hlo]
      by_cases hin : lo ≤ a ∧ a < lo + (n + 1)
      · rw [if_pos hin, if_pos (by omega)]
      · rw [if_neg hin, if_neg (by omega)]

/-- A store built from its bytes is canonical. -/
theorem Memory.wf_ofFn (f : Nat → Byte) : (Memory.ofFn f).wf = true := by
  unfold Memory.wf Memory.ofFn
  exact Memory.risingFrom_tabulate f 256 0 (by omega)

/-- A store built from its bytes reads as them. -/
theorem Memory.read_ofFn (f : Nat → Byte) {a : Nat} (ha : a < 256) : (Memory.ofFn f).read a = f a := by
  unfold Memory.ofFn Memory.size
  rw [Memory.read_tabulate f 256 0 a (by omega), if_pos (by omega)]

theorem Memory.wf_applyDyn (n : Nat) (m : Memory) : (m.applyDyn n).wf = true := Memory.wf_ofFn _

theorem Memory.read_applyDyn (n : Nat) (m : Memory) {a : Nat} (ha : a < 256) :
    (m.applyDyn n).read a = if Memory.dynMayChange a then Config.dyn n m.read a else m.read a :=
  Memory.read_ofFn _ ha

theorem Memory.wf_recomputeChecksum {m : Memory} (h : m.wf = true) : m.recomputeChecksum.wf = true :=
  Memory.wf_write h (by decide) _

theorem Memory.wf_clearBelow {m : Memory} (h : m.wf = true) {n : Nat} (hn : n ≤ 256) : (m.clearBelow n).wf = true := by
  induction n with
  | zero => exact h
  | succ n ih => exact Memory.wf_write (ih (by omega)) (by omega) _

theorem Memory.read_clearBelow {m : Memory} (h : m.wf = true) {n : Nat} (hn : n ≤ 256) (a : Nat) :
    (m.clearBelow n).read a = if a < n then 0x00 else m.read a := by
  induction n with
  | zero => rfl
  | succ n ih =>
    rw [Memory.clearBelow, Memory.read_write (Memory.wf_clearBelow h (by omega)), ih (by omega)]
    by_cases ha : a = n
    · subst ha
      simp
    · rw [if_neg ha]
      by_cases hlt : a < n
      · rw [if_pos hlt, if_pos (by omega)]
      · rw [if_neg hlt, if_neg (by omega)]

theorem Memory.wf_clearVolatile {m : Memory} (h : m.wf = true) : m.clearVolatile.wf = true :=
  Memory.wf_clearBelow h (by decide)

/-- The reset sequence gives a canonical store from any store. -/
theorem Memory.wf_storeReset (n : Nat) (m : Memory) : (m.storeReset n).wf = true :=
  Memory.wf_clearVolatile (Memory.wf_recomputeChecksum (Memory.wf_applyDyn n m))

/-- All the reset sequence does (70_reset_and_hazards.md R241): the volatile bytes are 0, the checksum is that
of the store after `DYN`, and every other byte is as `DYN` leaves it. -/
theorem Memory.read_storeReset (n : Nat) (m : Memory) {a : Nat} (ha : a < 256) :
    (m.storeReset n).read a =
      if a < 0x10 then 0x00
      else if a = Memory.checksumAddr then (m.applyDyn n).checksum
      else Config.dyn n m.read a := by
  unfold Memory.storeReset Memory.clearVolatile
  rw [Memory.read_clearBelow (Memory.wf_recomputeChecksum (Memory.wf_applyDyn n m)) (by decide)]
  split
  · rfl
  · next hlow =>
    unfold Memory.recomputeChecksum
    rw [Memory.read_write (Memory.wf_applyDyn n m)]
    split
    · rfl
    · next hck =>
      rw [Memory.read_applyDyn n m ha, if_pos]
      simp [Memory.dynMayChange, hck]
      omega

/-- The sum over a range depends on the bytes of that range only. -/
theorem Memory.sumFrom_congr {m m' : Memory} (n lo : Nat) (h : ∀ a, lo ≤ a → a < lo + n → m.read a = m'.read a) :
    m.sumFrom n lo = m'.sumFrom n lo := by
  induction n generalizing lo with
  | zero => rfl
  | succ n ih =>
    rw [Memory.sumFrom, Memory.sumFrom, h lo (by omega) (by omega), ih (lo + 1) fun a ha hb => h a (by omega) (by omega)]

/-- Two canonical stores with the same bytes are the same list. -/
theorem Memory.ext_from {m m' : Memory} {lo : Nat} (h : Memory.risingFrom lo m = true)
    (h' : Memory.risingFrom lo m' = true) (hread : ∀ a, m.read a = m'.read a) : m = m' := by
  induction m generalizing m' lo with
  | nil =>
    cases m' with
    | nil => rfl
    | cons e m' =>
      obtain ⟨k, v⟩ := e
      have := hread k
      rw [Memory.read, Memory.read, if_pos rfl] at this
      exact absurd this.symm (Memory.risingFrom_cons.1 h').2.2.1
  | cons e m ih =>
    obtain ⟨k, v⟩ := e
    have hc := Memory.risingFrom_cons.1 h
    cases m' with
    | nil =>
      have := hread k
      rw [Memory.read, Memory.read, if_pos rfl] at this
      exact absurd this hc.2.2.1
    | cons e' m' =>
      obtain ⟨k', v'⟩ := e'
      have hc' := Memory.risingFrom_cons.1 h'
      have hkk : k = k' := by
        rcases Nat.lt_trichotomy k k' with hlt | heq | hgt
        · have := hread k
          rw [Memory.read, if_pos rfl, Memory.read, if_neg (by omega), Memory.read_below hc'.2.2.2 (by omega)] at this
          exact absurd this hc.2.2.1
        · exact heq
        · have := hread k'
          rw [Memory.read, if_neg (by omega), Memory.read, if_pos rfl, Memory.read_below hc.2.2.2 (by omega)] at this
          exact absurd this.symm hc'.2.2.1
      subst hkk
      have hv := hread k
      rw [Memory.read, Memory.read, if_pos rfl, if_pos rfl] at hv
      subst hv
      refine congrArg _ (ih hc.2.2.2 hc'.2.2.2 fun a => ?_)
      by_cases ha : k = a
      · subst ha
        rw [Memory.read_below hc.2.2.2 (by omega), Memory.read_below hc'.2.2.2 (by omega)]
      · have := hread a
        rwa [Memory.read, if_neg ha, Memory.read, if_neg ha] at this

theorem Memory.ext_of_wf {m m' : Memory} (h : m.wf = true) (h' : m'.wf = true) (hread : ∀ a, m.read a = m'.read a) :
    m = m' :=
  Memory.ext_from h h' hread

end Sys2Proof.Machine
end

