-- ==== Sys2Proof/Laws/State.lean ====
section
/-! SUPPORT. One lemma for each field of State after each update of the shared operations, so that no proof
unfolds a record update. -/

namespace Sys2Proof.Machine

/-! ### emit -/

@[simp] theorem emit_busState (e : Event) (s : State) : (emit e s).busState = s.busState := rfl
@[simp] theorem emit_active (e : Event) (s : State) : (emit e s).active = s.active := rfl
@[simp] theorem emit_srIn (e : Event) (s : State) : (emit e s).srIn = s.srIn := rfl
@[simp] theorem emit_srOut (e : Event) (s : State) : (emit e s).srOut = s.srOut := rfl
@[simp] theorem emit_bitCount (e : Event) (s : State) : (emit e s).bitCount = s.bitCount := rfl
@[simp] theorem emit_prevClock (e : Event) (s : State) : (emit e s).prevClock = s.prevClock := rfl
@[simp] theorem emit_prevData (e : Event) (s : State) : (emit e s).prevData = s.prevData := rfl
@[simp] theorem emit_touched (e : Event) (s : State) : (emit e s).touched = s.touched := rfl
@[simp] theorem emit_sclOut (e : Event) (s : State) : (emit e s).sclOut = s.sclOut := rfl
@[simp] theorem emit_sdaOut (e : Event) (s : State) : (emit e s).sdaOut = s.sdaOut := rfl
@[simp] theorem emit_rtcEnabled (e : Event) (s : State) : (emit e s).rtcEnabled = s.rtcEnabled := rfl
@[simp] theorem emit_memEnabled (e : Event) (s : State) : (emit e s).memEnabled = s.memEnabled := rfl
@[simp] theorem emit_rtcReg (e : Event) (s : State) : (emit e s).rtcReg = s.rtcReg := rfl
@[simp] theorem emit_rtcPhase (e : Event) (s : State) : (emit e s).rtcPhase = s.rtcPhase := rfl
@[simp] theorem emit_memReg (e : Event) (s : State) : (emit e s).memReg = s.memReg := rfl
@[simp] theorem emit_store (e : Event) (s : State) : (emit e s).store = s.store := rfl
@[simp] theorem emit_fault (e : Event) (s : State) : (emit e s).fault = s.fault := rfl
@[simp] theorem emit_trace (e : Event) (s : State) : (emit e s).trace = s.trace ++ [e] := rfl
@[simp] theorem emit_calls (e : Event) (s : State) : (emit e s).calls = s.calls := rfl
@[simp] theorem emit_draws (e : Event) (s : State) : (emit e s).draws = s.draws := rfl

/-! ### sample -/

@[simp] theorem sample_busState (c d : Level) (s : State) : (sample c d s).busState = s.busState := rfl
@[simp] theorem sample_active (c d : Level) (s : State) : (sample c d s).active = s.active := rfl
@[simp] theorem sample_srIn (c d : Level) (s : State) : (sample c d s).srIn = s.srIn := rfl
@[simp] theorem sample_srOut (c d : Level) (s : State) : (sample c d s).srOut = s.srOut := rfl
@[simp] theorem sample_bitCount (c d : Level) (s : State) : (sample c d s).bitCount = s.bitCount := rfl
@[simp] theorem sample_prevClock (c d : Level) (s : State) : (sample c d s).prevClock = c := rfl
@[simp] theorem sample_prevData (c d : Level) (s : State) : (sample c d s).prevData = d := rfl
@[simp] theorem sample_touched (c d : Level) (s : State) : (sample c d s).touched = s.touched := rfl
@[simp] theorem sample_sclOut (c d : Level) (s : State) : (sample c d s).sclOut = s.sclOut := rfl
@[simp] theorem sample_sdaOut (c d : Level) (s : State) : (sample c d s).sdaOut = s.sdaOut := rfl
@[simp] theorem sample_rtcEnabled (c d : Level) (s : State) : (sample c d s).rtcEnabled = s.rtcEnabled := rfl
@[simp] theorem sample_memEnabled (c d : Level) (s : State) : (sample c d s).memEnabled = s.memEnabled := rfl
@[simp] theorem sample_rtcReg (c d : Level) (s : State) : (sample c d s).rtcReg = s.rtcReg := rfl
@[simp] theorem sample_rtcPhase (c d : Level) (s : State) : (sample c d s).rtcPhase = s.rtcPhase := rfl
@[simp] theorem sample_memReg (c d : Level) (s : State) : (sample c d s).memReg = s.memReg := rfl
@[simp] theorem sample_store (c d : Level) (s : State) : (sample c d s).store = s.store := rfl
@[simp] theorem sample_fault (c d : Level) (s : State) : (sample c d s).fault = s.fault := rfl
@[simp] theorem sample_trace (c d : Level) (s : State) : (sample c d s).trace = s.trace := rfl
@[simp] theorem sample_calls (c d : Level) (s : State) : (sample c d s).calls = s.calls := rfl
@[simp] theorem sample_draws (c d : Level) (s : State) : (sample c d s).draws = s.draws := rfl

/-! ### release -/

@[simp] theorem release_busState (s : State) : (release s).busState = s.busState := rfl
@[simp] theorem release_active (s : State) : (release s).active = s.active := rfl
@[simp] theorem release_srIn (s : State) : (release s).srIn = s.srIn := rfl
@[simp] theorem release_srOut (s : State) : (release s).srOut = s.srOut := rfl
@[simp] theorem release_bitCount (s : State) : (release s).bitCount = s.bitCount := rfl
@[simp] theorem release_prevClock (s : State) : (release s).prevClock = s.prevClock := rfl
@[simp] theorem release_prevData (s : State) : (release s).prevData = s.prevData := rfl
@[simp] theorem release_touched (s : State) : (release s).touched = s.touched := rfl
@[simp] theorem release_sclOut (s : State) : (release s).sclOut = true := rfl
@[simp] theorem release_sdaOut (s : State) : (release s).sdaOut = true := rfl
@[simp] theorem release_rtcEnabled (s : State) : (release s).rtcEnabled = s.rtcEnabled := rfl
@[simp] theorem release_memEnabled (s : State) : (release s).memEnabled = s.memEnabled := rfl
@[simp] theorem release_rtcReg (s : State) : (release s).rtcReg = s.rtcReg := rfl
@[simp] theorem release_rtcPhase (s : State) : (release s).rtcPhase = s.rtcPhase := rfl
@[simp] theorem release_memReg (s : State) : (release s).memReg = s.memReg := rfl
@[simp] theorem release_store (s : State) : (release s).store = s.store := rfl
@[simp] theorem release_fault (s : State) : (release s).fault = s.fault := rfl
@[simp] theorem release_trace (s : State) : (release s).trace = s.trace := rfl
@[simp] theorem release_calls (s : State) : (release s).calls = s.calls := rfl
@[simp] theorem release_draws (s : State) : (release s).draws = s.draws := rfl

/-! ### driveData -/

@[simp] theorem driveData_busState (l : Level) (s : State) : (driveData l s).busState = s.busState := rfl
@[simp] theorem driveData_active (l : Level) (s : State) : (driveData l s).active = s.active := rfl
@[simp] theorem driveData_srIn (l : Level) (s : State) : (driveData l s).srIn = s.srIn := rfl
@[simp] theorem driveData_srOut (l : Level) (s : State) : (driveData l s).srOut = s.srOut := rfl
@[simp] theorem driveData_bitCount (l : Level) (s : State) : (driveData l s).bitCount = s.bitCount := rfl
@[simp] theorem driveData_prevClock (l : Level) (s : State) : (driveData l s).prevClock = s.prevClock := rfl
@[simp] theorem driveData_prevData (l : Level) (s : State) : (driveData l s).prevData = s.prevData := rfl
@[simp] theorem driveData_touched (l : Level) (s : State) : (driveData l s).touched = s.touched := rfl
@[simp] theorem driveData_sclOut (l : Level) (s : State) : (driveData l s).sclOut = s.sclOut := rfl
@[simp] theorem driveData_sdaOut (l : Level) (s : State) : (driveData l s).sdaOut = l := rfl
@[simp] theorem driveData_rtcEnabled (l : Level) (s : State) : (driveData l s).rtcEnabled = s.rtcEnabled := rfl
@[simp] theorem driveData_memEnabled (l : Level) (s : State) : (driveData l s).memEnabled = s.memEnabled := rfl
@[simp] theorem driveData_rtcReg (l : Level) (s : State) : (driveData l s).rtcReg = s.rtcReg := rfl
@[simp] theorem driveData_rtcPhase (l : Level) (s : State) : (driveData l s).rtcPhase = s.rtcPhase := rfl
@[simp] theorem driveData_memReg (l : Level) (s : State) : (driveData l s).memReg = s.memReg := rfl
@[simp] theorem driveData_store (l : Level) (s : State) : (driveData l s).store = s.store := rfl
@[simp] theorem driveData_fault (l : Level) (s : State) : (driveData l s).fault = s.fault := rfl
@[simp] theorem driveData_trace (l : Level) (s : State) : (driveData l s).trace = s.trace := rfl
@[simp] theorem driveData_calls (l : Level) (s : State) : (driveData l s).calls = s.calls := rfl
@[simp] theorem driveData_draws (l : Level) (s : State) : (driveData l s).draws = s.draws := rfl

/-! ### storeWrite -/

@[simp] theorem storeWrite_busState (a v : Byte) (s : State) : (storeWrite a v s).busState = s.busState := rfl
@[simp] theorem storeWrite_active (a v : Byte) (s : State) : (storeWrite a v s).active = s.active := rfl
@[simp] theorem storeWrite_srIn (a v : Byte) (s : State) : (storeWrite a v s).srIn = s.srIn := rfl
@[simp] theorem storeWrite_srOut (a v : Byte) (s : State) : (storeWrite a v s).srOut = s.srOut := rfl
@[simp] theorem storeWrite_bitCount (a v : Byte) (s : State) : (storeWrite a v s).bitCount = s.bitCount := rfl
@[simp] theorem storeWrite_prevClock (a v : Byte) (s : State) : (storeWrite a v s).prevClock = s.prevClock := rfl
@[simp] theorem storeWrite_prevData (a v : Byte) (s : State) : (storeWrite a v s).prevData = s.prevData := rfl
@[simp] theorem storeWrite_touched (a v : Byte) (s : State) : (storeWrite a v s).touched = s.touched := rfl
@[simp] theorem storeWrite_sclOut (a v : Byte) (s : State) : (storeWrite a v s).sclOut = s.sclOut := rfl
@[simp] theorem storeWrite_sdaOut (a v : Byte) (s : State) : (storeWrite a v s).sdaOut = s.sdaOut := rfl
@[simp] theorem storeWrite_rtcEnabled (a v : Byte) (s : State) : (storeWrite a v s).rtcEnabled = s.rtcEnabled := rfl
@[simp] theorem storeWrite_memEnabled (a v : Byte) (s : State) : (storeWrite a v s).memEnabled = s.memEnabled := rfl
@[simp] theorem storeWrite_rtcReg (a v : Byte) (s : State) : (storeWrite a v s).rtcReg = s.rtcReg := rfl
@[simp] theorem storeWrite_rtcPhase (a v : Byte) (s : State) : (storeWrite a v s).rtcPhase = s.rtcPhase := rfl
@[simp] theorem storeWrite_memReg (a v : Byte) (s : State) : (storeWrite a v s).memReg = s.memReg := rfl
@[simp] theorem storeWrite_store (a v : Byte) (s : State) : (storeWrite a v s).store = s.store.write a.toNat v := rfl
@[simp] theorem storeWrite_fault (a v : Byte) (s : State) : (storeWrite a v s).fault = s.fault := rfl
@[simp] theorem storeWrite_trace (a v : Byte) (s : State) : (storeWrite a v s).trace = s.trace := rfl
@[simp] theorem storeWrite_calls (a v : Byte) (s : State) : (storeWrite a v s).calls = s.calls := rfl
@[simp] theorem storeWrite_draws (a v : Byte) (s : State) : (storeWrite a v s).draws = s.draws := rfl

/-! ### save -/

@[simp] theorem save_busState (s : State) : (save s).busState = s.busState := rfl
@[simp] theorem save_active (s : State) : (save s).active = s.active := rfl
@[simp] theorem save_srIn (s : State) : (save s).srIn = s.srIn := rfl
@[simp] theorem save_srOut (s : State) : (save s).srOut = s.srOut := rfl
@[simp] theorem save_bitCount (s : State) : (save s).bitCount = s.bitCount := rfl
@[simp] theorem save_prevClock (s : State) : (save s).prevClock = s.prevClock := rfl
@[simp] theorem save_prevData (s : State) : (save s).prevData = s.prevData := rfl
@[simp] theorem save_touched (s : State) : (save s).touched = s.touched := rfl
@[simp] theorem save_sclOut (s : State) : (save s).sclOut = s.sclOut := rfl
@[simp] theorem save_sdaOut (s : State) : (save s).sdaOut = s.sdaOut := rfl
@[simp] theorem save_rtcEnabled (s : State) : (save s).rtcEnabled = s.rtcEnabled := rfl
@[simp] theorem save_memEnabled (s : State) : (save s).memEnabled = s.memEnabled := rfl
@[simp] theorem save_rtcReg (s : State) : (save s).rtcReg = s.rtcReg := rfl
@[simp] theorem save_rtcPhase (s : State) : (save s).rtcPhase = s.rtcPhase := rfl
@[simp] theorem save_memReg (s : State) : (save s).memReg = s.memReg := rfl
@[simp] theorem save_store (s : State) : (save s).store = s.store := rfl
@[simp] theorem save_fault (s : State) : (save s).fault = s.fault := rfl
@[simp] theorem save_trace (s : State) : (save s).trace = s.trace ++ [.save s.store] := rfl
@[simp] theorem save_calls (s : State) : (save s).calls = s.calls := rfl
@[simp] theorem save_draws (s : State) : (save s).draws = s.draws := rfl

/-! ### raiseFault -/

@[simp] theorem raiseFault_busState (r : Fault) (s : State) : (raiseFault r s).busState = s.busState := rfl
@[simp] theorem raiseFault_active (r : Fault) (s : State) : (raiseFault r s).active = s.active := rfl
@[simp] theorem raiseFault_srIn (r : Fault) (s : State) : (raiseFault r s).srIn = s.srIn := rfl
@[simp] theorem raiseFault_srOut (r : Fault) (s : State) : (raiseFault r s).srOut = s.srOut := rfl
@[simp] theorem raiseFault_bitCount (r : Fault) (s : State) : (raiseFault r s).bitCount = s.bitCount := rfl
@[simp] theorem raiseFault_prevClock (r : Fault) (s : State) : (raiseFault r s).prevClock = s.prevClock := rfl
@[simp] theorem raiseFault_prevData (r : Fault) (s : State) : (raiseFault r s).prevData = s.prevData := rfl
@[simp] theorem raiseFault_touched (r : Fault) (s : State) : (raiseFault r s).touched = s.touched := rfl
@[simp] theorem raiseFault_sclOut (r : Fault) (s : State) : (raiseFault r s).sclOut = s.sclOut := rfl
@[simp] theorem raiseFault_sdaOut (r : Fault) (s : State) : (raiseFault r s).sdaOut = s.sdaOut := rfl
@[simp] theorem raiseFault_rtcEnabled (r : Fault) (s : State) : (raiseFault r s).rtcEnabled = s.rtcEnabled := rfl
@[simp] theorem raiseFault_memEnabled (r : Fault) (s : State) : (raiseFault r s).memEnabled = s.memEnabled := rfl
@[simp] theorem raiseFault_rtcReg (r : Fault) (s : State) : (raiseFault r s).rtcReg = s.rtcReg := rfl
@[simp] theorem raiseFault_rtcPhase (r : Fault) (s : State) : (raiseFault r s).rtcPhase = s.rtcPhase := rfl
@[simp] theorem raiseFault_memReg (r : Fault) (s : State) : (raiseFault r s).memReg = s.memReg := rfl
@[simp] theorem raiseFault_store (r : Fault) (s : State) : (raiseFault r s).store = s.store := rfl
@[simp] theorem raiseFault_fault (r : Fault) (s : State) : (raiseFault r s).fault = some r := rfl
@[simp] theorem raiseFault_trace (r : Fault) (s : State) : (raiseFault r s).trace = s.trace := rfl
@[simp] theorem raiseFault_calls (r : Fault) (s : State) : (raiseFault r s).calls = s.calls := rfl
@[simp] theorem raiseFault_draws (r : Fault) (s : State) : (raiseFault r s).draws = s.draws := rfl

/-! ### advanceRtcReg -/

@[simp] theorem advanceRtcReg_busState (s : State) : (advanceRtcReg s).busState = s.busState := rfl
@[simp] theorem advanceRtcReg_active (s : State) : (advanceRtcReg s).active = s.active := rfl
@[simp] theorem advanceRtcReg_srIn (s : State) : (advanceRtcReg s).srIn = s.srIn := rfl
@[simp] theorem advanceRtcReg_srOut (s : State) : (advanceRtcReg s).srOut = s.srOut := rfl
@[simp] theorem advanceRtcReg_bitCount (s : State) : (advanceRtcReg s).bitCount = s.bitCount := rfl
@[simp] theorem advanceRtcReg_prevClock (s : State) : (advanceRtcReg s).prevClock = s.prevClock := rfl
@[simp] theorem advanceRtcReg_prevData (s : State) : (advanceRtcReg s).prevData = s.prevData := rfl
@[simp] theorem advanceRtcReg_touched (s : State) : (advanceRtcReg s).touched = s.touched := rfl
@[simp] theorem advanceRtcReg_sclOut (s : State) : (advanceRtcReg s).sclOut = s.sclOut := rfl
@[simp] theorem advanceRtcReg_sdaOut (s : State) : (advanceRtcReg s).sdaOut = s.sdaOut := rfl
@[simp] theorem advanceRtcReg_rtcEnabled (s : State) : (advanceRtcReg s).rtcEnabled = s.rtcEnabled := rfl
@[simp] theorem advanceRtcReg_memEnabled (s : State) : (advanceRtcReg s).memEnabled = s.memEnabled := rfl
@[simp] theorem advanceRtcReg_rtcReg (s : State) : (advanceRtcReg s).rtcReg = (s.rtcReg + 1) &&& 0x00FF := rfl
@[simp] theorem advanceRtcReg_rtcPhase (s : State) : (advanceRtcReg s).rtcPhase = s.rtcPhase := rfl
@[simp] theorem advanceRtcReg_memReg (s : State) : (advanceRtcReg s).memReg = s.memReg := rfl
@[simp] theorem advanceRtcReg_store (s : State) : (advanceRtcReg s).store = s.store := rfl
@[simp] theorem advanceRtcReg_fault (s : State) : (advanceRtcReg s).fault = s.fault := rfl
@[simp] theorem advanceRtcReg_trace (s : State) : (advanceRtcReg s).trace = s.trace := rfl
@[simp] theorem advanceRtcReg_calls (s : State) : (advanceRtcReg s).calls = s.calls := rfl
@[simp] theorem advanceRtcReg_draws (s : State) : (advanceRtcReg s).draws = s.draws := rfl

/-! ### advanceMemReg -/

@[simp] theorem advanceMemReg_busState (s : State) : (advanceMemReg s).busState = s.busState := rfl
@[simp] theorem advanceMemReg_active (s : State) : (advanceMemReg s).active = s.active := rfl
@[simp] theorem advanceMemReg_srIn (s : State) : (advanceMemReg s).srIn = s.srIn := rfl
@[simp] theorem advanceMemReg_srOut (s : State) : (advanceMemReg s).srOut = s.srOut := rfl
@[simp] theorem advanceMemReg_bitCount (s : State) : (advanceMemReg s).bitCount = s.bitCount := rfl
@[simp] theorem advanceMemReg_prevClock (s : State) : (advanceMemReg s).prevClock = s.prevClock := rfl
@[simp] theorem advanceMemReg_prevData (s : State) : (advanceMemReg s).prevData = s.prevData := rfl
@[simp] theorem advanceMemReg_touched (s : State) : (advanceMemReg s).touched = s.touched := rfl
@[simp] theorem advanceMemReg_sclOut (s : State) : (advanceMemReg s).sclOut = s.sclOut := rfl
@[simp] theorem advanceMemReg_sdaOut (s : State) : (advanceMemReg s).sdaOut = s.sdaOut := rfl
@[simp] theorem advanceMemReg_rtcEnabled (s : State) : (advanceMemReg s).rtcEnabled = s.rtcEnabled := rfl
@[simp] theorem advanceMemReg_memEnabled (s : State) : (advanceMemReg s).memEnabled = s.memEnabled := rfl
@[simp] theorem advanceMemReg_rtcReg (s : State) : (advanceMemReg s).rtcReg = s.rtcReg := rfl
@[simp] theorem advanceMemReg_rtcPhase (s : State) : (advanceMemReg s).rtcPhase = s.rtcPhase := rfl
@[simp] theorem advanceMemReg_memReg (s : State) : (advanceMemReg s).memReg = (s.memReg + 1) &&& 0x7F := rfl
@[simp] theorem advanceMemReg_store (s : State) : (advanceMemReg s).store = s.store := rfl
@[simp] theorem advanceMemReg_fault (s : State) : (advanceMemReg s).fault = s.fault := rfl
@[simp] theorem advanceMemReg_trace (s : State) : (advanceMemReg s).trace = s.trace := rfl
@[simp] theorem advanceMemReg_calls (s : State) : (advanceMemReg s).calls = s.calls := rfl
@[simp] theorem advanceMemReg_draws (s : State) : (advanceMemReg s).draws = s.draws := rfl

/-! ### markTouched -/

@[simp] theorem markTouched_busState (s : State) : (markTouched s).busState = s.busState := rfl
@[simp] theorem markTouched_active (s : State) : (markTouched s).active = s.active := rfl
@[simp] theorem markTouched_srIn (s : State) : (markTouched s).srIn = s.srIn := rfl
@[simp] theorem markTouched_srOut (s : State) : (markTouched s).srOut = s.srOut := rfl
@[simp] theorem markTouched_bitCount (s : State) : (markTouched s).bitCount = s.bitCount := rfl
@[simp] theorem markTouched_prevClock (s : State) : (markTouched s).prevClock = s.prevClock := rfl
@[simp] theorem markTouched_prevData (s : State) : (markTouched s).prevData = s.prevData := rfl
@[simp] theorem markTouched_touched (s : State) : (markTouched s).touched = true := rfl
@[simp] theorem markTouched_sclOut (s : State) : (markTouched s).sclOut = s.sclOut := rfl
@[simp] theorem markTouched_sdaOut (s : State) : (markTouched s).sdaOut = s.sdaOut := rfl
@[simp] theorem markTouched_rtcEnabled (s : State) : (markTouched s).rtcEnabled = s.rtcEnabled := rfl
@[simp] theorem markTouched_memEnabled (s : State) : (markTouched s).memEnabled = s.memEnabled := rfl
@[simp] theorem markTouched_rtcReg (s : State) : (markTouched s).rtcReg = s.rtcReg := rfl
@[simp] theorem markTouched_rtcPhase (s : State) : (markTouched s).rtcPhase = s.rtcPhase := rfl
@[simp] theorem markTouched_memReg (s : State) : (markTouched s).memReg = s.memReg := rfl
@[simp] theorem markTouched_store (s : State) : (markTouched s).store = s.store := rfl
@[simp] theorem markTouched_fault (s : State) : (markTouched s).fault = s.fault := rfl
@[simp] theorem markTouched_trace (s : State) : (markTouched s).trace = s.trace := rfl
@[simp] theorem markTouched_calls (s : State) : (markTouched s).calls = s.calls := rfl
@[simp] theorem markTouched_draws (s : State) : (markTouched s).draws = s.draws := rfl

/-! ### clearTouched -/

@[simp] theorem clearTouched_busState (s : State) : (clearTouched s).busState = s.busState := rfl
@[simp] theorem clearTouched_active (s : State) : (clearTouched s).active = s.active := rfl
@[simp] theorem clearTouched_srIn (s : State) : (clearTouched s).srIn = s.srIn := rfl
@[simp] theorem clearTouched_srOut (s : State) : (clearTouched s).srOut = s.srOut := rfl
@[simp] theorem clearTouched_bitCount (s : State) : (clearTouched s).bitCount = s.bitCount := rfl
@[simp] theorem clearTouched_prevClock (s : State) : (clearTouched s).prevClock = s.prevClock := rfl
@[simp] theorem clearTouched_prevData (s : State) : (clearTouched s).prevData = s.prevData := rfl
@[simp] theorem clearTouched_touched (s : State) : (clearTouched s).touched = false := rfl
@[simp] theorem clearTouched_sclOut (s : State) : (clearTouched s).sclOut = s.sclOut := rfl
@[simp] theorem clearTouched_sdaOut (s : State) : (clearTouched s).sdaOut = s.sdaOut := rfl
@[simp] theorem clearTouched_rtcEnabled (s : State) : (clearTouched s).rtcEnabled = s.rtcEnabled := rfl
@[simp] theorem clearTouched_memEnabled (s : State) : (clearTouched s).memEnabled = s.memEnabled := rfl
@[simp] theorem clearTouched_rtcReg (s : State) : (clearTouched s).rtcReg = s.rtcReg := rfl
@[simp] theorem clearTouched_rtcPhase (s : State) : (clearTouched s).rtcPhase = s.rtcPhase := rfl
@[simp] theorem clearTouched_memReg (s : State) : (clearTouched s).memReg = s.memReg := rfl
@[simp] theorem clearTouched_store (s : State) : (clearTouched s).store = s.store := rfl
@[simp] theorem clearTouched_fault (s : State) : (clearTouched s).fault = s.fault := rfl
@[simp] theorem clearTouched_trace (s : State) : (clearTouched s).trace = s.trace := rfl
@[simp] theorem clearTouched_calls (s : State) : (clearTouched s).calls = s.calls := rfl
@[simp] theorem clearTouched_draws (s : State) : (clearTouched s).draws = s.draws := rfl

/-! ### setPhase -/

@[simp] theorem setPhase_busState (p : RtcPhase) (s : State) : (setPhase p s).busState = s.busState := rfl
@[simp] theorem setPhase_active (p : RtcPhase) (s : State) : (setPhase p s).active = s.active := rfl
@[simp] theorem setPhase_srIn (p : RtcPhase) (s : State) : (setPhase p s).srIn = s.srIn := rfl
@[simp] theorem setPhase_srOut (p : RtcPhase) (s : State) : (setPhase p s).srOut = s.srOut := rfl
@[simp] theorem setPhase_bitCount (p : RtcPhase) (s : State) : (setPhase p s).bitCount = s.bitCount := rfl
@[simp] theorem setPhase_prevClock (p : RtcPhase) (s : State) : (setPhase p s).prevClock = s.prevClock := rfl
@[simp] theorem setPhase_prevData (p : RtcPhase) (s : State) : (setPhase p s).prevData = s.prevData := rfl
@[simp] theorem setPhase_touched (p : RtcPhase) (s : State) : (setPhase p s).touched = s.touched := rfl
@[simp] theorem setPhase_sclOut (p : RtcPhase) (s : State) : (setPhase p s).sclOut = s.sclOut := rfl
@[simp] theorem setPhase_sdaOut (p : RtcPhase) (s : State) : (setPhase p s).sdaOut = s.sdaOut := rfl
@[simp] theorem setPhase_rtcEnabled (p : RtcPhase) (s : State) : (setPhase p s).rtcEnabled = s.rtcEnabled := rfl
@[simp] theorem setPhase_memEnabled (p : RtcPhase) (s : State) : (setPhase p s).memEnabled = s.memEnabled := rfl
@[simp] theorem setPhase_rtcReg (p : RtcPhase) (s : State) : (setPhase p s).rtcReg = s.rtcReg := rfl
@[simp] theorem setPhase_rtcPhase (p : RtcPhase) (s : State) : (setPhase p s).rtcPhase = p := rfl
@[simp] theorem setPhase_memReg (p : RtcPhase) (s : State) : (setPhase p s).memReg = s.memReg := rfl
@[simp] theorem setPhase_store (p : RtcPhase) (s : State) : (setPhase p s).store = s.store := rfl
@[simp] theorem setPhase_fault (p : RtcPhase) (s : State) : (setPhase p s).fault = s.fault := rfl
@[simp] theorem setPhase_trace (p : RtcPhase) (s : State) : (setPhase p s).trace = s.trace := rfl
@[simp] theorem setPhase_calls (p : RtcPhase) (s : State) : (setPhase p s).calls = s.calls := rfl
@[simp] theorem setPhase_draws (p : RtcPhase) (s : State) : (setPhase p s).draws = s.draws := rfl

/-! ### installDevices -/

@[simp] theorem installDevices_busState (mask : Nat) (s : State) : (installDevices mask s).busState = s.busState := rfl
@[simp] theorem installDevices_active (mask : Nat) (s : State) : (installDevices mask s).active = s.active := rfl
@[simp] theorem installDevices_srIn (mask : Nat) (s : State) : (installDevices mask s).srIn = s.srIn := rfl
@[simp] theorem installDevices_srOut (mask : Nat) (s : State) : (installDevices mask s).srOut = s.srOut := rfl
@[simp] theorem installDevices_bitCount (mask : Nat) (s : State) : (installDevices mask s).bitCount = s.bitCount := rfl
@[simp] theorem installDevices_prevClock (mask : Nat) (s : State) : (installDevices mask s).prevClock = s.prevClock := rfl
@[simp] theorem installDevices_prevData (mask : Nat) (s : State) : (installDevices mask s).prevData = s.prevData := rfl
@[simp] theorem installDevices_touched (mask : Nat) (s : State) : (installDevices mask s).touched = s.touched := rfl
@[simp] theorem installDevices_sclOut (mask : Nat) (s : State) : (installDevices mask s).sclOut = s.sclOut := rfl
@[simp] theorem installDevices_sdaOut (mask : Nat) (s : State) : (installDevices mask s).sdaOut = s.sdaOut := rfl
@[simp] theorem installDevices_rtcEnabled (mask : Nat) (s : State) : (installDevices mask s).rtcEnabled = maskEnablesRtc mask := rfl
@[simp] theorem installDevices_memEnabled (mask : Nat) (s : State) : (installDevices mask s).memEnabled = maskEnablesMem mask := rfl
@[simp] theorem installDevices_rtcReg (mask : Nat) (s : State) : (installDevices mask s).rtcReg = s.rtcReg := rfl
@[simp] theorem installDevices_rtcPhase (mask : Nat) (s : State) : (installDevices mask s).rtcPhase = s.rtcPhase := rfl
@[simp] theorem installDevices_memReg (mask : Nat) (s : State) : (installDevices mask s).memReg = s.memReg := rfl
@[simp] theorem installDevices_store (mask : Nat) (s : State) : (installDevices mask s).store = s.store := rfl
@[simp] theorem installDevices_fault (mask : Nat) (s : State) : (installDevices mask s).fault = s.fault := rfl
@[simp] theorem installDevices_trace (mask : Nat) (s : State) : (installDevices mask s).trace = s.trace := rfl
@[simp] theorem installDevices_calls (mask : Nat) (s : State) : (installDevices mask s).calls = s.calls := rfl
@[simp] theorem installDevices_draws (mask : Nat) (s : State) : (installDevices mask s).draws = s.draws := rfl

/-! ### shiftBit -/

@[simp] theorem shiftBit_busState (d : Level) (s : State) : (shiftBit d s).busState = s.busState := rfl
@[simp] theorem shiftBit_active (d : Level) (s : State) : (shiftBit d s).active = s.active := rfl
@[simp] theorem shiftBit_srIn (d : Level) (s : State) : (shiftBit d s).srIn = shiftIn s.srIn d := rfl
@[simp] theorem shiftBit_srOut (d : Level) (s : State) : (shiftBit d s).srOut = s.srOut := rfl
@[simp] theorem shiftBit_bitCount (d : Level) (s : State) : (shiftBit d s).bitCount = s.bitCount + 1 := rfl
@[simp] theorem shiftBit_prevClock (d : Level) (s : State) : (shiftBit d s).prevClock = s.prevClock := rfl
@[simp] theorem shiftBit_prevData (d : Level) (s : State) : (shiftBit d s).prevData = s.prevData := rfl
@[simp] theorem shiftBit_touched (d : Level) (s : State) : (shiftBit d s).touched = s.touched := rfl
@[simp] theorem shiftBit_sclOut (d : Level) (s : State) : (shiftBit d s).sclOut = s.sclOut := rfl
@[simp] theorem shiftBit_sdaOut (d : Level) (s : State) : (shiftBit d s).sdaOut = s.sdaOut := rfl
@[simp] theorem shiftBit_rtcEnabled (d : Level) (s : State) : (shiftBit d s).rtcEnabled = s.rtcEnabled := rfl
@[simp] theorem shiftBit_memEnabled (d : Level) (s : State) : (shiftBit d s).memEnabled = s.memEnabled := rfl
@[simp] theorem shiftBit_rtcReg (d : Level) (s : State) : (shiftBit d s).rtcReg = s.rtcReg := rfl
@[simp] theorem shiftBit_rtcPhase (d : Level) (s : State) : (shiftBit d s).rtcPhase = s.rtcPhase := rfl
@[simp] theorem shiftBit_memReg (d : Level) (s : State) : (shiftBit d s).memReg = s.memReg := rfl
@[simp] theorem shiftBit_store (d : Level) (s : State) : (shiftBit d s).store = s.store := rfl
@[simp] theorem shiftBit_fault (d : Level) (s : State) : (shiftBit d s).fault = s.fault := rfl
@[simp] theorem shiftBit_trace (d : Level) (s : State) : (shiftBit d s).trace = s.trace := rfl
@[simp] theorem shiftBit_calls (d : Level) (s : State) : (shiftBit d s).calls = s.calls := rfl
@[simp] theorem shiftBit_draws (d : Level) (s : State) : (shiftBit d s).draws = s.draws := rfl

/-! ### beginWriteByte -/

@[simp] theorem beginWriteByte_busState (s : State) : (beginWriteByte s).busState = .writing := rfl
@[simp] theorem beginWriteByte_active (s : State) : (beginWriteByte s).active = s.active := rfl
@[simp] theorem beginWriteByte_srIn (s : State) : (beginWriteByte s).srIn = 0x00 := rfl
@[simp] theorem beginWriteByte_srOut (s : State) : (beginWriteByte s).srOut = s.srOut := rfl
@[simp] theorem beginWriteByte_bitCount (s : State) : (beginWriteByte s).bitCount = 0 := rfl
@[simp] theorem beginWriteByte_prevClock (s : State) : (beginWriteByte s).prevClock = s.prevClock := rfl
@[simp] theorem beginWriteByte_prevData (s : State) : (beginWriteByte s).prevData = s.prevData := rfl
@[simp] theorem beginWriteByte_touched (s : State) : (beginWriteByte s).touched = s.touched := rfl
@[simp] theorem beginWriteByte_sclOut (s : State) : (beginWriteByte s).sclOut = s.sclOut := rfl
@[simp] theorem beginWriteByte_sdaOut (s : State) : (beginWriteByte s).sdaOut = s.sdaOut := rfl
@[simp] theorem beginWriteByte_rtcEnabled (s : State) : (beginWriteByte s).rtcEnabled = s.rtcEnabled := rfl
@[simp] theorem beginWriteByte_memEnabled (s : State) : (beginWriteByte s).memEnabled = s.memEnabled := rfl
@[simp] theorem beginWriteByte_rtcReg (s : State) : (beginWriteByte s).rtcReg = s.rtcReg := rfl
@[simp] theorem beginWriteByte_rtcPhase (s : State) : (beginWriteByte s).rtcPhase = s.rtcPhase := rfl
@[simp] theorem beginWriteByte_memReg (s : State) : (beginWriteByte s).memReg = s.memReg := rfl
@[simp] theorem beginWriteByte_store (s : State) : (beginWriteByte s).store = s.store := rfl
@[simp] theorem beginWriteByte_fault (s : State) : (beginWriteByte s).fault = s.fault := rfl
@[simp] theorem beginWriteByte_trace (s : State) : (beginWriteByte s).trace = s.trace := rfl
@[simp] theorem beginWriteByte_calls (s : State) : (beginWriteByte s).calls = s.calls := rfl
@[simp] theorem beginWriteByte_draws (s : State) : (beginWriteByte s).draws = s.draws := rfl

/-! ### beginReadByte -/

@[simp] theorem beginReadByte_busState (s : State) : (beginReadByte s).busState = .reading := rfl
@[simp] theorem beginReadByte_active (s : State) : (beginReadByte s).active = s.active := rfl
@[simp] theorem beginReadByte_srIn (s : State) : (beginReadByte s).srIn = s.srIn := rfl
@[simp] theorem beginReadByte_srOut (s : State) : (beginReadByte s).srOut = s.srOut := rfl
@[simp] theorem beginReadByte_bitCount (s : State) : (beginReadByte s).bitCount = 8 := rfl
@[simp] theorem beginReadByte_prevClock (s : State) : (beginReadByte s).prevClock = s.prevClock := rfl
@[simp] theorem beginReadByte_prevData (s : State) : (beginReadByte s).prevData = s.prevData := rfl
@[simp] theorem beginReadByte_touched (s : State) : (beginReadByte s).touched = s.touched := rfl
@[simp] theorem beginReadByte_sclOut (s : State) : (beginReadByte s).sclOut = s.sclOut := rfl
@[simp] theorem beginReadByte_sdaOut (s : State) : (beginReadByte s).sdaOut = s.sdaOut := rfl
@[simp] theorem beginReadByte_rtcEnabled (s : State) : (beginReadByte s).rtcEnabled = s.rtcEnabled := rfl
@[simp] theorem beginReadByte_memEnabled (s : State) : (beginReadByte s).memEnabled = s.memEnabled := rfl
@[simp] theorem beginReadByte_rtcReg (s : State) : (beginReadByte s).rtcReg = s.rtcReg := rfl
@[simp] theorem beginReadByte_rtcPhase (s : State) : (beginReadByte s).rtcPhase = s.rtcPhase := rfl
@[simp] theorem beginReadByte_memReg (s : State) : (beginReadByte s).memReg = s.memReg := rfl
@[simp] theorem beginReadByte_store (s : State) : (beginReadByte s).store = s.store := rfl
@[simp] theorem beginReadByte_fault (s : State) : (beginReadByte s).fault = s.fault := rfl
@[simp] theorem beginReadByte_trace (s : State) : (beginReadByte s).trace = s.trace := rfl
@[simp] theorem beginReadByte_calls (s : State) : (beginReadByte s).calls = s.calls := rfl
@[simp] theorem beginReadByte_draws (s : State) : (beginReadByte s).draws = s.draws := rfl

/-! ### driveNextBit -/

@[simp] theorem driveNextBit_busState (s : State) : (driveNextBit s).busState = s.busState := rfl
@[simp] theorem driveNextBit_active (s : State) : (driveNextBit s).active = s.active := rfl
@[simp] theorem driveNextBit_srIn (s : State) : (driveNextBit s).srIn = s.srIn := rfl
@[simp] theorem driveNextBit_srOut (s : State) : (driveNextBit s).srOut = s.srOut := rfl
@[simp] theorem driveNextBit_bitCount (s : State) : (driveNextBit s).bitCount = s.bitCount - 1 := rfl
@[simp] theorem driveNextBit_prevClock (s : State) : (driveNextBit s).prevClock = s.prevClock := rfl
@[simp] theorem driveNextBit_prevData (s : State) : (driveNextBit s).prevData = s.prevData := rfl
@[simp] theorem driveNextBit_touched (s : State) : (driveNextBit s).touched = s.touched := rfl
@[simp] theorem driveNextBit_sclOut (s : State) : (driveNextBit s).sclOut = s.sclOut := rfl
@[simp] theorem driveNextBit_sdaOut (s : State) : (driveNextBit s).sdaOut = outBit s.srOut (s.bitCount - 1) := rfl
@[simp] theorem driveNextBit_rtcEnabled (s : State) : (driveNextBit s).rtcEnabled = s.rtcEnabled := rfl
@[simp] theorem driveNextBit_memEnabled (s : State) : (driveNextBit s).memEnabled = s.memEnabled := rfl
@[simp] theorem driveNextBit_rtcReg (s : State) : (driveNextBit s).rtcReg = s.rtcReg := rfl
@[simp] theorem driveNextBit_rtcPhase (s : State) : (driveNextBit s).rtcPhase = s.rtcPhase := rfl
@[simp] theorem driveNextBit_memReg (s : State) : (driveNextBit s).memReg = s.memReg := rfl
@[simp] theorem driveNextBit_store (s : State) : (driveNextBit s).store = s.store := rfl
@[simp] theorem driveNextBit_fault (s : State) : (driveNextBit s).fault = s.fault := rfl
@[simp] theorem driveNextBit_trace (s : State) : (driveNextBit s).trace = s.trace := rfl
@[simp] theorem driveNextBit_calls (s : State) : (driveNextBit s).calls = s.calls := rfl
@[simp] theorem driveNextBit_draws (s : State) : (driveNextBit s).draws = s.draws := rfl

/-! ### startCondition -/

@[simp] theorem startCondition_busState (s : State) : (startCondition s).busState = .addressing := rfl
@[simp] theorem startCondition_active (s : State) : (startCondition s).active = none := rfl
@[simp] theorem startCondition_srIn (s : State) : (startCondition s).srIn = 0x00 := rfl
@[simp] theorem startCondition_srOut (s : State) : (startCondition s).srOut = s.srOut := rfl
@[simp] theorem startCondition_bitCount (s : State) : (startCondition s).bitCount = 0 := rfl
@[simp] theorem startCondition_prevClock (s : State) : (startCondition s).prevClock = s.prevClock := rfl
@[simp] theorem startCondition_prevData (s : State) : (startCondition s).prevData = s.prevData := rfl
@[simp] theorem startCondition_touched (s : State) : (startCondition s).touched = false := rfl
@[simp] theorem startCondition_sclOut (s : State) : (startCondition s).sclOut = s.sclOut := rfl
@[simp] theorem startCondition_sdaOut (s : State) : (startCondition s).sdaOut = s.sdaOut := rfl
@[simp] theorem startCondition_rtcEnabled (s : State) : (startCondition s).rtcEnabled = s.rtcEnabled := rfl
@[simp] theorem startCondition_memEnabled (s : State) : (startCondition s).memEnabled = s.memEnabled := rfl
@[simp] theorem startCondition_rtcReg (s : State) : (startCondition s).rtcReg = s.rtcReg := rfl
@[simp] theorem startCondition_rtcPhase (s : State) : (startCondition s).rtcPhase = s.rtcPhase := rfl
@[simp] theorem startCondition_memReg (s : State) : (startCondition s).memReg = s.memReg := rfl
@[simp] theorem startCondition_store (s : State) : (startCondition s).store = s.store := rfl
@[simp] theorem startCondition_fault (s : State) : (startCondition s).fault = s.fault := rfl
@[simp] theorem startCondition_trace (s : State) : (startCondition s).trace = s.trace := rfl
@[simp] theorem startCondition_calls (s : State) : (startCondition s).calls = s.calls := rfl
@[simp] theorem startCondition_draws (s : State) : (startCondition s).draws = s.draws := rfl

end Sys2Proof.Machine
end

