-- ==== Sys2Proof/Laws/Ops.lean ====
section
/-! SUPPORT. For each shared operation, once, all it can do. -/

namespace Sys2Proof.Machine

/-! ### Outcomes -/

/-- An unfaulted block takes the step. -/
theorem whenUnfaulted_next {s : State} (h : s.fault = none) (k : State → State) : whenUnfaulted k s = .next (k s) := by
  unfold whenUnfaulted
  rw [h]

/-- A faulted block takes none. -/
theorem whenUnfaulted_fault {s : State} {r : Fault} (h : s.fault = some r) (k : State → State) :
    whenUnfaulted k s = .fault r := by
  unfold whenUnfaulted
  rw [h]

/-- A next state comes from an unfaulted block, and it is the effect. -/
theorem whenUnfaulted_cases {s t : State} {k : State → State} (h : whenUnfaulted k s = .next t) :
    s.fault = none ∧ t = k s := by
  cases hf : s.fault with
  | none =>
    rw [whenUnfaulted_next hf] at h
    exact ⟨rfl, (Host.Outcome.next.inj h).symm⟩
  | some r =>
    rw [whenUnfaulted_fault hf] at h
    cases h

theorem pinEvent_next {s : State} (h : s.fault = none) (c d : Level) (k : State → State) :
    pinEvent c d k s = .next (k (sample c d s)) :=
  whenUnfaulted_next h _

theorem pinEvent_cases {s t : State} {c d : Level} {k : State → State} (h : pinEvent c d k s = .next t) :
    s.fault = none ∧ t = k (sample c d s) :=
  whenUnfaulted_cases h

theorem edgeWithResponder_some {s : State} {r : Responder} (h : s.active = some r) (c d : Level) (k : State → State) :
    edgeWithResponder c d k s = k (sample c d s) := by
  unfold edgeWithResponder
  rw [h]

theorem edgeWithResponder_none {s : State} (h : s.active = none) (c d : Level) (k : State → State) :
    edgeWithResponder c d k s = raiseFault .noActiveResponder s := by
  unfold edgeWithResponder
  rw [h]

/-- The check of 42_bus_detection.md R147 passes when a responder is active. -/
theorem clockEdge_active {s : State} (h : s.active ≠ none) (c d : Level) (k : State → State) :
    clockEdge c d k s = k (sample c d s) := by
  unfold clockEdge lacksResponder
  cases hs : s.active with
  | none => exact absurd hs h
  | some r => simp

/-- The check of 42_bus_detection.md R147 passes in the seven states that need no responder. -/
theorem clockEdge_free {s : State} (h : needsResponder s.busState = false) (c d : Level) (k : State → State) :
    clockEdge c d k s = k (sample c d s) := by
  unfold clockEdge lacksResponder
  simp [h]

/-! ### The step -/

theorem step_idle {s : State} (h : s.calls = []) : step s = .next s := by
  unfold step nextCall
  rw [h]

/-- All a step can do when it answers a next state: hold without a call, or run the next call's instruction. -/
theorem step_cases {s t : State} (h : step s = .next t) :
    (s.calls = [] ∧ t = s) ∨
      ∃ w rest i, s.calls = w :: rest ∧ decode w = .ok i ∧ describes i { s with calls := rest } = true ∧
        exec i { s with calls := rest } = .next t := by
  cases hc : s.calls with
  | nil =>
    rw [step_idle hc] at h
    exact .inl ⟨rfl, (Host.Outcome.next.inj h).symm⟩
  | cons w rest =>
    refine .inr ⟨w, rest, ?_⟩
    simp only [step, nextCall, hc] at h
    cases hd : decode w with
    | error e =>
      rw [hd] at h
      cases h
    | ok i =>
      rw [hd] at h
      dsimp only at h
      split at h
      · next hdesc => exact ⟨i, rfl, rfl, hdesc, h⟩
      · cases h

/-! ### The responders -/

theorem wf_storeWrite {s : State} (h : s.store.wf = true) (a v : Byte) : (storeWrite a v s).store.wf = true :=
  Memory.wf_write h a.isLt v

theorem read_storeWrite {s : State} (h : s.store.wf = true) (a v : Byte) (b : Nat) :
    (storeWrite a v s).store.read b = if b = a.toNat then v else s.store.read b :=
  Memory.read_write h a.toNat b v

/-- A time overwrite changes nothing but bytes of the store. -/
theorem writeTime_frame (t : TimeSample) (s : State) : ∃ m, writeTime t s = { s with store := m } := by
  simp only [writeTime, storeWrite]
  exact ⟨_, rfl⟩

/-- The bytes after a time overwrite (40_rtc_responder.md R106). -/
theorem read_writeTime {s : State} (h : s.store.wf = true) (t : TimeSample) (a : Nat) :
    (writeTime t s).store.read a =
      if a = 0x06 then weekdayMonthByte t
      else if a = 0x05 then yearDayByte t
      else if a = 0x04 then bcd t.hours
      else if a = 0x03 then bcd t.minutes
      else if a = 0x02 then bcd t.seconds
      else if a = 0x01 then 0x00
      else s.store.read a := by
  have h1 := wf_storeWrite h 0x01 0x00
  have h2 := wf_storeWrite h1 0x02 (bcd t.seconds)
  have h3 := wf_storeWrite h2 0x03 (bcd t.minutes)
  have h4 := wf_storeWrite h3 0x04 (bcd t.hours)
  have h5 := wf_storeWrite h4 0x05 (yearDayByte t)
  rw [writeTime, read_storeWrite h5, read_storeWrite h4, read_storeWrite h3, read_storeWrite h2, read_storeWrite h1,
    read_storeWrite h]
  simp only [show (0x06 : Byte).toNat = 0x06 from rfl, show (0x05 : Byte).toNat = 0x05 from rfl,
    show (0x04 : Byte).toNat = 0x04 from rfl, show (0x03 : Byte).toNat = 0x03 from rfl,
    show (0x02 : Byte).toNat = 0x02 from rfl, show (0x01 : Byte).toNat = 0x01 from rfl]

theorem wf_writeTime {s : State} (h : s.store.wf = true) (t : TimeSample) : (writeTime t s).store.wf = true := by
  rw [writeTime]
  exact wf_storeWrite (wf_storeWrite (wf_storeWrite (wf_storeWrite (wf_storeWrite (wf_storeWrite h _ _) _ _) _ _) _ _) _ _) _ _

theorem wf_timeOverwrite {s : State} (h : s.store.wf = true) : (timeOverwrite s).store.wf = true :=
  wf_writeTime (s := { s with draws := s.draws + 1 }) h _

/-- What the RTC's time overwrite changes: bytes of the store and the count of draws. -/
theorem timeOverwrite_frame (s : State) : ∃ m, timeOverwrite s = { s with store := m, draws := s.draws + 1 } := by
  obtain ⟨m, hm⟩ := writeTime_frame (Config.timeSample s.draws) { s with draws := s.draws + 1 }
  exact ⟨m, hm⟩

theorem refreshTime_high {s : State} (h : ¬ s.rtcReg < 0x0010) : refreshTime s = s := if_neg h

theorem refreshTime_low {s : State} (h : s.rtcReg < 0x0010) : refreshTime s = timeOverwrite s := if_pos h

/-- All a synthesis of the time can do: nothing, or new store bytes and one draw. -/
theorem refreshTime_frame (s : State) : ∃ m n, refreshTime s = { s with store := m, draws := n } := by
  unfold refreshTime
  split
  · obtain ⟨m, hm⟩ := timeOverwrite_frame s
    exact ⟨m, s.draws + 1, hm⟩
  · exact ⟨s.store, s.draws, rfl⟩

theorem wf_refreshTime {s : State} (h : s.store.wf = true) : (refreshTime s).store.wf = true := by
  unfold refreshTime
  split
  · exact wf_timeOverwrite h
  · exact h

/-- All an RTC `read` can do (40_rtc_responder.md R103). -/
theorem rtcRead_frame (s : State) :
    ∃ m n, rtcRead s =
      ({ s with
          store := m
          draws := n
          rtcReg := (s.rtcReg + 1) &&& 0x00FF
          trace := s.trace ++ [.read .rtc (m.read (s.rtcReg.setWidth 8 : Byte).toNat)] },
        m.read (s.rtcReg.setWidth 8 : Byte).toNat) := by
  obtain ⟨m, n, hm⟩ := refreshTime_frame s
  refine ⟨m, n, ?_⟩
  simp only [rtcRead, hm, storeRead, rtcAddress, advanceRtcReg, emit]

/-- All an RTC data write can do (40_rtc_responder.md R102). -/
theorem rtcWriteData_frame (b : Byte) (s : State) :
    ∃ events, rtcWriteData b s =
      ({ s with
          store := s.store.write (s.rtcReg.setWidth 8 : Byte).toNat b
          rtcReg := (s.rtcReg + 1) &&& 0x00FF
          trace := s.trace ++ [.write .rtc b .ack] ++ events }, .ack) := by
  unfold rtcWriteData saveIfChecksum
  split
  · exact ⟨[.save _], rfl⟩
  · exact ⟨[], by rw [List.append_nil]; rfl⟩

/-- Both responders acknowledge every `start` (43_bus_states.md R179). -/
theorem callStart_acks (r : Responder) (a : BitVec 7) (dir : Direction) (s : State) : (callStart r a dir s).2 = .ack := by
  cases r <;> rfl

/-- Both responders acknowledge every `write` (43_bus_states.md R179). -/
theorem callWrite_acks (r : Responder) (b : Byte) (s : State) : (callWrite r b s).2 = .ack := by
  cases r
  · cases hp : s.rtcPhase <;> simp [callWrite, rtcWrite, hp, rtcWriteAddress, rtcWriteData]
  · rfl

/-- Neither responder implements `read_ack`, so the notification does nothing (R105, R124). -/
@[simp] theorem notifyReadAck_eq (a : Ack) (s : State) : notifyReadAck a s = s := by
  unfold notifyReadAck
  split
  · rfl
  · next r _ => cases r <;> rfl

/-- The four outcomes of a lookup (44_registry.md R202). -/
theorem lookup_cases (a : BitVec 7) (s : State) :
    (lookup a s = some .rtc ∧ a = 0x50#7 ∧ s.rtcEnabled = true) ∨
      (lookup a s = some .mem ∧ a = 0x54#7 ∧ s.memEnabled = true) ∨
      (lookup a s = none ∧ ¬(a = 0x50#7 ∧ s.rtcEnabled = true) ∧ ¬(a = 0x54#7 ∧ s.memEnabled = true)) := by
  unfold lookup
  by_cases h : a = 0x50#7 ∧ s.rtcEnabled = true
  · rw [if_pos h]
    exact .inl ⟨rfl, h⟩
  · rw [if_neg h]
    by_cases h' : a = 0x54#7 ∧ s.memEnabled = true
    · rw [if_pos h']
      exact .inr (.inl ⟨rfl, h'⟩)
    · rw [if_neg h']
      exact .inr (.inr ⟨rfl, h, h'⟩)

/-- All address recognition can do (43_bus_states.md R163): Idle without an event, or the addressed responder
active in the acknowledge state of its direction. -/
theorem recogniseAddress_cases (s : State) :
    (lookup (addr7Of s.srIn) s = none ∧ recogniseAddress s = { s with busState := .idle, active := none }) ∨
      ∃ r, lookup (addr7Of s.srIn) s = some r ∧
        recogniseAddress s =
          { (callStart r (addr7Of s.srIn) (dirOf s.srIn) s).1 with
            active := some r, busState := afterAddress (dirOf s.srIn) } := by
  unfold recogniseAddress
  cases hl : lookup (addr7Of s.srIn) s with
  | none => exact .inl ⟨rfl, rfl⟩
  | some r =>
    refine .inr ⟨r, rfl, ?_⟩
    simp only [callStart_acks]

/-! ### Masks -/

/-- 44_registry.md R201: the two mask bits are different bits. -/
theorem maskBits_distinct : Config.maskBitRtc ≠ Config.maskBitMem := by
  unfold Config.maskBitMem
  split <;> omega

/-! ### Reset -/

theorem reset_store : State.reset.store = (Memory.initialImage 0).storeReset 1 := rfl

/-- The store after reset is canonical. -/
theorem reset_store_wf : State.reset.store.wf = true := by
  rw [reset_store]
  exact Memory.wf_storeReset 1 (Memory.initialImage 0)

/-- The `n + 1` byte of a 16-bit register masked to 8 bits (10_state.md R31). -/
theorem advanced_rtcReg_le (r : BitVec 16) : ((r + 1) &&& 0x00FF).toNat ≤ 0xFF := by
  rw [BitVec.toNat_and]
  exact Nat.and_le_right

/-- The next index of the descriptor table (10_state.md R33). -/
theorem advanced_memReg_le (r : BitVec 8) : ((r + 1) &&& 0x7F).toNat ≤ 0x7F := by
  rw [BitVec.toNat_and]
  exact Nat.and_le_right

theorem memRegOf_le (b : Byte) : (memRegOf b).toNat ≤ 0x7F := by
  unfold memRegOf
  rw [BitVec.toNat_and]
  exact Nat.and_le_right

theorem rtcRegOf_le (b : Byte) : (rtcRegOf b).toNat ≤ 0xFF := by
  unfold rtcRegOf
  rw [BitVec.toNat_setWidth]
  have := b.isLt
  omega

end Sys2Proof.Machine
end

