-- ==== Sys2Proof/Laws/PerInstr.lean ====
section
/-! SUPPORT. Statements made for each instruction, one lemma per constructor. -/

namespace Sys2Proof

/-- The bits a format gives its word (30_encoding.md R71, R80, R81). -/
def Format.width : Format → Nat
  | .dispatch => 8
  | .responderCall => 5
  | .hostOp => 2

namespace Laws.CodeFits

/-- The code of an instruction's word fits its format. -/
def Statement (i : Instr) : Prop := (encode i).code.toNat < 2 ^ (encode i).format.width

theorem start (st : BusState) : Statement (.start st) := (dispatchCode st true true true false).isLt
theorem stop (st : BusState) : Statement (.stop st) := (dispatchCode st true false true true).isLt
theorem noneClockLow (st : BusState) (pd d : Level) : Statement (.noneClockLow st pd d) :=
  (dispatchCode st false pd false d).isLt
theorem noneHighSteadyLow (st : BusState) : Statement (.noneHighSteadyLow st) :=
  (dispatchCode st true false true false).isLt
theorem noneHighSteadyHigh (st : BusState) : Statement (.noneHighSteadyHigh st) :=
  (dispatchCode st true true true true).isLt
theorem idleFall (pd d : Level) : Statement (.idleFall pd d) := (dispatchCode .idle true pd false d).isLt
theorem idleRise (pd d : Level) : Statement (.idleRise pd d) := (dispatchCode .idle false pd true d).isLt
theorem addressingFall (pd d : Level) : Statement (.addressingFall pd d) := (dispatchCode .addressing true pd false d).isLt
theorem addressingRise (pd d : Level) : Statement (.addressingRise pd d) := (dispatchCode .addressing false pd true d).isLt
theorem ackReadAddrFall (pd d : Level) : Statement (.ackReadAddrFall pd d) := (dispatchCode .ackReadAddr true pd false d).isLt
theorem ackReadAddrRise (pd d : Level) : Statement (.ackReadAddrRise pd d) := (dispatchCode .ackReadAddr false pd true d).isLt
theorem ackReadFall (pd d : Level) : Statement (.ackReadFall pd d) := (dispatchCode .ackRead true pd false d).isLt
theorem ackReadRise (pd d : Level) : Statement (.ackReadRise pd d) := (dispatchCode .ackRead false pd true d).isLt
theorem ackWriteFall (pd d : Level) : Statement (.ackWriteFall pd d) := (dispatchCode .ackWrite true pd false d).isLt
theorem ackWriteRise (pd d : Level) : Statement (.ackWriteRise pd d) := (dispatchCode .ackWrite false pd true d).isLt
theorem nackWriteFall (pd d : Level) : Statement (.nackWriteFall pd d) := (dispatchCode .nackWrite true pd false d).isLt
theorem nackWriteRise (pd d : Level) : Statement (.nackWriteRise pd d) := (dispatchCode .nackWrite false pd true d).isLt
theorem readingFall (pd d : Level) : Statement (.readingFall pd d) := (dispatchCode .reading true pd false d).isLt
theorem readingRise (pd d : Level) : Statement (.readingRise pd d) := (dispatchCode .reading false pd true d).isLt
theorem writingFall (pd d : Level) : Statement (.writingFall pd d) := (dispatchCode .writing true pd false d).isLt
theorem writingRise (pd d : Level) : Statement (.writingRise pd d) := (dispatchCode .writing false pd true d).isLt
theorem waitingFall (pd d : Level) : Statement (.waitingFall pd d) := (dispatchCode .waiting true pd false d).isLt
theorem waitingRise (pd d : Level) : Statement (.waitingRise pd d) := (dispatchCode .waiting false pd true d).isLt
theorem rtcStart (addr7 : BitVec 7) (dir : Direction) : Statement (.rtcStart addr7 dir) :=
  (by decide : (0b00000 : Byte).toNat < 2 ^ 5)
theorem rtcWriteAddress (b : Byte) : Statement (.rtcWriteAddress b) :=
  (by decide : (0b00010 : Byte).toNat < 2 ^ 5)
theorem rtcWriteData (b : Byte) : Statement (.rtcWriteData b) :=
  (by decide : (0b00011 : Byte).toNat < 2 ^ 5)
theorem rtcRead : Statement .rtcRead :=
  (by decide : (0b00100 : Byte).toNat < 2 ^ 5)
theorem rtcStop : Statement .rtcStop :=
  (by decide : (0b00110 : Byte).toNat < 2 ^ 5)
theorem rtcReadAck (a : Ack) : Statement (.rtcReadAck a) :=
  (by decide : (0b01000 : Byte).toNat < 2 ^ 5)
theorem memStart (addr7 : BitVec 7) (dir : Direction) : Statement (.memStart addr7 dir) :=
  (by decide : (0b10000 : Byte).toNat < 2 ^ 5)
theorem memWrite (b : Byte) : Statement (.memWrite b) :=
  (by decide : (0b10010 : Byte).toNat < 2 ^ 5)
theorem memRead : Statement .memRead :=
  (by decide : (0b10100 : Byte).toNat < 2 ^ 5)
theorem memStop : Statement .memStop :=
  (by decide : (0b10110 : Byte).toNat < 2 ^ 5)
theorem memReadAck (a : Ack) : Statement (.memReadAck a) :=
  (by decide : (0b11000 : Byte).toNat < 2 ^ 5)
theorem powerOn (mask : Nat) : Statement (.powerOn mask) :=
  (by decide : (0 : Byte).toNat < 2 ^ 2)
theorem reset (mask : Nat) : Statement (.reset mask) :=
  (by decide : (1 : Byte).toNat < 2 ^ 2)
theorem saveRequest : Statement .saveRequest :=
  (by decide : (2 : Byte).toNat < 2 ^ 2)
theorem pinChange (c d : Level) : Statement (.pinChange c d) :=
  (by decide : (3 : Byte).toNat < 2 ^ 2)

end Laws.CodeFits

end Sys2Proof
end

