-- ==== Sys2Proof/Machine/Script.lean ====
section
/-! DEFINITION. The script statements of the spec's test programs (30_encoding.md R84, R85) and the harness
that presents them: the controller's side of the bus, outside the block. -/

namespace Sys2Proof.Machine

/-- Primitive statements (R84). -/
inductive Stmt where
  | pins (c d : Level)
  | drive (c d : Level)
  | reset (mask : Nat)
  | save
  | powerOn (mask : Nat)
  deriving DecidableEq, Repr

abbrev Script := List Stmt

/-- The effective levels: the AND of the controller's drive and the block's outputs (30_encoding.md R78,
70_reset_and_hazards.md R245). -/
def effectiveLevels (c d : Level) (s : State) : Level × Level := (c && s.sclOut, d && s.sdaOut)

/-- The one call a statement makes in a state (R84). -/
def Stmt.instr (s : State) : Stmt → Instr
  | .pins c d => .pinChange c d
  | .drive c d => .pinChange (effectiveLevels c d s).1 (effectiveLevels c d s).2
  | .reset mask => .reset mask
  | .save => .saveRequest
  | .powerOn mask => .powerOn mask

/-- Present a statement as the only pending call and take one step. -/
def Stmt.run (st : Stmt) (s : State) : Host.Outcome State Fault Refusal :=
  step { s with calls := [encode (st.instr s)] }

/-- Run a script, stopping where a step stops. -/
def Script.run : Script → State → Host.Outcome State Fault Refusal
  | [], s => .next s
  | st :: rest, s =>
    match st.run s with
    | .next t => Script.run rest t
    | .fault r => .fault r
    | .refused r => .refused r

/-! ## The statements of R85 -/

def scriptStart : Script := [.drive true false, .drive false false]

def scriptRestart : Script := [.drive false true, .drive true true, .drive true false, .drive false false]

def scriptStop : Script := [.drive false false, .drive true false, .drive true true]

/-- `TX b` -/
def sendBit (b : Level) : Script := [.drive false b, .drive true b, .drive false b]

/-- `TXB x`, most significant bit first (R76). -/
def sendByte (x : Byte) : Script :=
  sendBit (x.getLsbD 7) ++ sendBit (x.getLsbD 6) ++ sendBit (x.getLsbD 5) ++ sendBit (x.getLsbD 4) ++
  sendBit (x.getLsbD 3) ++ sendBit (x.getLsbD 2) ++ sendBit (x.getLsbD 1) ++ sendBit (x.getLsbD 0)

/-- `RX`, and `RXACK`, which is the same clock pulse. -/
def receiveBit : Script := [.drive false true, .drive true true, .drive false true]

/-- `RXB` -/
def receiveByte : Script :=
  receiveBit ++ receiveBit ++ receiveBit ++ receiveBit ++ receiveBit ++ receiveBit ++ receiveBit ++ receiveBit

/-- `ACK` and `NACK`: the controller's answer to a read byte (R77). -/
def answer (a : Ack) : Script := sendBit a.level

end Sys2Proof.Machine
end

