-- ==== Sys2Proof/WellFormed.lean ====
section
/-! DEFINITION. What an instruction's operands must satisfy to be one the block itself can issue. -/

namespace Sys2Proof

/-- The address operand of a responder's `start` is always the responder's own: 0x50 for the RTC
(40_rtc_responder.md R100) and 0x54 for the EEPROM (41_memory_responder.md R120). Every other operand
is legal at every value of its type. -/
def Instr.wellFormed : Instr → Bool
  | .start _ => true
  | .stop _ => true
  | .noneClockLow _ _ _ => true
  | .noneHighSteadyLow _ => true
  | .noneHighSteadyHigh _ => true
  | .idleFall _ _ => true
  | .idleRise _ _ => true
  | .addressingFall _ _ => true
  | .addressingRise _ _ => true
  | .ackReadAddrFall _ _ => true
  | .ackReadAddrRise _ _ => true
  | .ackReadFall _ _ => true
  | .ackReadRise _ _ => true
  | .ackWriteFall _ _ => true
  | .ackWriteRise _ _ => true
  | .nackWriteFall _ _ => true
  | .nackWriteRise _ _ => true
  | .readingFall _ _ => true
  | .readingRise _ _ => true
  | .writingFall _ _ => true
  | .writingRise _ _ => true
  | .waitingFall _ _ => true
  | .waitingRise _ _ => true
  | .rtcStart addr7 _ => addr7 == 0x50#7
  | .rtcWriteAddress _ => true
  | .rtcWriteData _ => true
  | .rtcRead => true
  | .rtcStop => true
  | .rtcReadAck _ => true
  | .memStart addr7 _ => addr7 == 0x54#7
  | .memWrite _ => true
  | .memRead => true
  | .memStop => true
  | .memReadAck _ => true
  | .powerOn _ => true
  | .reset _ => true
  | .saveRequest => true
  | .pinChange _ _ => true

end Sys2Proof
end

