-- ==== Sys2Proof/Tests/Slice0.lean ====
section
/-! SUPPORT. Tests of the model against the spec's own vectors (95_test_vectors.md, named in each comment), and
a witness for the hypotheses of every obligation that has any. -/

namespace Sys2Proof.Tests

open Sys2Proof.Machine

/-! ## Helpers -/

/-- An idle block with both devices enabled, an empty store and free bus lines. -/
def fresh : State where
  busState := .idle
  active := none
  srIn := 0
  srOut := 0
  bitCount := 0
  prevClock := true
  prevData := true
  touched := false
  sclOut := true
  sdaOut := true
  rtcEnabled := true
  memEnabled := true
  rtcReg := 0
  rtcPhase := .addressPhase
  memReg := 0
  store := []
  fault := none
  trace := []
  calls := []
  draws := 0

/-- `fresh` in a bus state with a responder, after a low clock sample. -/
def inState (st : BusState) (r : Option Responder) : State := { fresh with busState := st, active := r, prevClock := false }

def nextState : Host.Outcome State Fault Refusal → Option State
  | .next t => some t
  | .fault _ => none
  | .refused _ => none

/-- A view of the state after an instruction. -/
def view {α : Type} (i : Instr) (s : State) (f : State → α) : Option α := (nextState (exec i s)).map f

/-! ## Well-formedness -/

theorem test_ill_formed_rtc_start : (Instr.rtcStart 0x51 .read).wellFormed = false := by decide
theorem test_ill_formed_mem_start : (Instr.memStart 0x50 .write).wellFormed = false := by decide
theorem test_well_formed_starts :
    (Instr.rtcStart 0x50 .write).wellFormed = true ∧ (Instr.memStart 0x54 .read).wellFormed = true := by decide

/-! ## Decoding: words written out from 30_encoding.md R71 to R73, R80, R81 -/

theorem test_decode_detection_words :
    decoded ⟨.dispatch, 0b0000_1110, 0⟩ = some (.start .idle) ∧
    decoded ⟨.dispatch, 0b0110_1011, 0⟩ = some (.stop .reading) ∧
    decoded ⟨.dispatch, 0b0001_0100, 0⟩ = some (.noneClockLow .addressing true false) ∧
    decoded ⟨.dispatch, 0b0101_1010, 0⟩ = some (.noneHighSteadyLow .nackWrite) ∧
    decoded ⟨.dispatch, 0b1000_1111, 0⟩ = some (.noneHighSteadyHigh .waiting) := by decide

theorem test_decode_fall_words :
    decoded ⟨.dispatch, 0b0000_1001, 0⟩ = some (.idleFall false true) ∧
    decoded ⟨.dispatch, 0b0001_1100, 0⟩ = some (.addressingFall true false) ∧
    decoded ⟨.dispatch, 0b0010_1000, 0⟩ = some (.ackReadAddrFall false false) ∧
    decoded ⟨.dispatch, 0b0011_1101, 0⟩ = some (.ackReadFall true true) ∧
    decoded ⟨.dispatch, 0b0100_1001, 0⟩ = some (.ackWriteFall false true) ∧
    decoded ⟨.dispatch, 0b0101_1100, 0⟩ = some (.nackWriteFall true false) ∧
    decoded ⟨.dispatch, 0b0110_1000, 0⟩ = some (.readingFall false false) ∧
    decoded ⟨.dispatch, 0b0111_1101, 0⟩ = some (.writingFall true true) ∧
    decoded ⟨.dispatch, 0b1000_1001, 0⟩ = some (.waitingFall false true) := by decide

theorem test_decode_rise_words :
    decoded ⟨.dispatch, 0b0000_0011, 0⟩ = some (.idleRise false true) ∧
    decoded ⟨.dispatch, 0b0001_0110, 0⟩ = some (.addressingRise true false) ∧
    decoded ⟨.dispatch, 0b0010_0010, 0⟩ = some (.ackReadAddrRise false false) ∧
    decoded ⟨.dispatch, 0b0011_0111, 0⟩ = some (.ackReadRise true true) ∧
    decoded ⟨.dispatch, 0b0100_0011, 0⟩ = some (.ackWriteRise false true) ∧
    decoded ⟨.dispatch, 0b0101_0110, 0⟩ = some (.nackWriteRise true false) ∧
    decoded ⟨.dispatch, 0b0110_0010, 0⟩ = some (.readingRise false false) ∧
    decoded ⟨.dispatch, 0b0111_0111, 0⟩ = some (.writingRise true true) ∧
    decoded ⟨.dispatch, 0b1000_0011, 0⟩ = some (.waitingRise false true) := by decide

theorem test_decode_rtc_words :
    decoded ⟨.responderCall, 0b00000, 0b1010000_1⟩ = some (.rtcStart 0x50 .read) ∧
    decoded ⟨.responderCall, 0b00010, 0x3F⟩ = some (.rtcWriteAddress 0x3F) ∧
    decoded ⟨.responderCall, 0b00011, 0x5A⟩ = some (.rtcWriteData 0x5A) ∧
    decoded ⟨.responderCall, 0b00100, 0⟩ = some .rtcRead ∧
    decoded ⟨.responderCall, 0b00110, 0⟩ = some .rtcStop ∧
    decoded ⟨.responderCall, 0b01000, 1⟩ = some (.rtcReadAck .nack) := by decide

theorem test_decode_mem_words :
    decoded ⟨.responderCall, 0b10000, 0b1010100_0⟩ = some (.memStart 0x54 .write) ∧
    decoded ⟨.responderCall, 0b10010, 0xFF⟩ = some (.memWrite 0xFF) ∧
    decoded ⟨.responderCall, 0b10100, 0⟩ = some .memRead ∧
    decoded ⟨.responderCall, 0b10110, 0⟩ = some .memStop ∧
    decoded ⟨.responderCall, 0b11000, 0⟩ = some (.memReadAck .ack) := by decide

theorem test_decode_host_words :
    decoded ⟨.hostOp, 0b00, 3⟩ = some (.powerOn 3) ∧
    decoded ⟨.hostOp, 0b01, 5⟩ = some (.reset 5) ∧
    decoded ⟨.hostOp, 0b10, 0⟩ = some .saveRequest ∧
    decoded ⟨.hostOp, 0b11, 0b01⟩ = some (.pinChange false true) := by decide

/-- 30_encoding.md R82 and the operand checks: each rejection by name. -/
theorem test_decode_rejections :
    (match decode ⟨.dispatch, 0x9E, 0⟩ with | .error e => some e | .ok _ => none) = some .unassignedStateCode ∧
    (match decode ⟨.responderCall, 0b01010, 0⟩ with | .error e => some e | .ok _ => none) = some .unusedResponderOp ∧
    (match decode ⟨.responderCall, 0b10011, 0⟩ with | .error e => some e | .ok _ => none) = some .phaseBitSet ∧
    (match decode ⟨.hostOp, 4, 0⟩ with | .error e => some e | .ok _ => none) = some .codeTooWide ∧
    (match decode ⟨.hostOp, 3, 4⟩ with | .error e => some e | .ok _ => none) = some .operandTooWide := by decide

/-- Words of the table without a format (log entry 2). -/
theorem test_table_words :
    decodeTableWord 8 0x0E = some (.start .idle) ∧ decodeTableWord 8 0x68 = some (.readingFall false false) ∧
    decodeTableWord 8 0x14 = some .memRead ∧ decodeTableWord 8 0x03 = some (.pinChange false false) ∧
    decodeTableWord 8 0x9E = none := by decide

/-! ## The step -/

/-- L1-1 of the dispatch: from the state after reset a placed START word is the next step. -/
theorem test_step_runs_a_placed_word :
    (nextState (step (State.withFetchWord fresh 8 0x6E))).map (fun t => (t.busState, t.active, t.calls)) =
      some (.addressing, none, []) := by decide

/-- 60_exceptions.md R225: no call, no change. -/
theorem test_step_holds_without_calls : nextState (step fresh) = some fresh := by decide

/-- A dispatch word of another state is refused (log entry 3). -/
theorem test_step_refuses_a_stale_word :
    (match step { fresh with calls := [⟨.dispatch, 0x68, 0⟩] } with | .refused r => some r | _ => none) =
      some .staleWord := by decide

/-! ## Handlers (L2-H) -/

/-- H-1 -/
theorem test_idle_fall_releases :
    view (.idleFall true true) { fresh with sdaOut := false } (fun t => (t.busState, t.sclOut, t.sdaOut)) =
      some (.idle, true, true) := by decide
/-- H-2 -/
theorem test_idle_rise_ignores_the_bit :
    view (.idleRise true false) { inState .idle none with bitCount := 8, srIn := 0xA3 } (fun t => (t.busState, t.bitCount, t.srIn)) =
      some (.idle, 8, 0xA3) := by decide
/-- H-3 -/
theorem test_addressing_fall_releases :
    view (.addressingFall true true) { fresh with busState := .addressing, bitCount := 3, sdaOut := false, sclOut := false }
      (fun t => (t.sclOut, t.sdaOut, t.bitCount)) = some (true, true, 3) := by decide
/-- H-4 -/
theorem test_addressing_rise_shifts :
    view (.addressingRise true true) (inState .addressing none) (fun t => (t.bitCount, t.srIn)) = some (1, 0x01) := by decide
/-- H-5 -/
theorem test_addressing_rise_finds_the_rtc :
    view (.addressingRise false true) { inState .addressing none with bitCount := 7, srIn := 0x50, rtcPhase := .dataPhase }
        (fun t => (t.rtcPhase, t.active, t.busState, t.trace)) =
      some (.addressPhase, some .rtc, .ackReadAddr, [.start .rtc 0x50 .read .ack]) := by decide
/-- H-6 -/
theorem test_addressing_rise_finds_the_eeprom :
    view (.addressingRise false false) { inState .addressing none with bitCount := 7, srIn := 0x54 }
        (fun t => (t.srIn, t.active, t.busState, t.trace)) =
      some (0xA8, some .mem, .ackWrite, [.start .mem 0x54 .write .ack]) := by decide
/-- H-7 -/
theorem test_addressing_rise_unknown_address :
    view (.addressingRise false true) { inState .addressing none with bitCount := 7, srIn := 0x51 }
        (fun t => (t.srIn, t.bitCount, t.busState, t.active, t.trace)) = some (0xA3, 8, .idle, none, []) := by decide
/-- L2-REG-5 -/
theorem test_addressing_rise_disabled_rtc :
    view (.addressingRise false true) { inState .addressing none with bitCount := 7, srIn := 0x50, rtcEnabled := false }
        (fun t => (t.busState, t.active, t.trace)) = some (.idle, none, []) := by decide
/-- H-9 -/
theorem test_ack_read_addr_fall_drives_low :
    view (.ackReadAddrFall true true) { fresh with busState := .ackReadAddr, active := some .rtc } (fun t => (t.sclOut, t.sdaOut)) =
      some (true, false) := by decide
/-- H-10 -/
theorem test_ack_read_addr_rise_begins_reading :
    view (.ackReadAddrRise false false) (inState .ackReadAddr (some .rtc)) (fun t => (t.busState, t.bitCount, t.touched)) =
      some (.reading, 8, true) := by decide
/-- H-11 -/
theorem test_ack_read_fall_releases :
    view (.ackReadFall false false) { fresh with busState := .ackRead, active := some .rtc, sdaOut := false }
      (fun t => (t.sclOut, t.sdaOut)) = some (true, true) := by decide
/-- H-12 -/
theorem test_ack_read_rise_nack :
    view (.ackReadRise true true) (inState .ackRead (some .rtc)) (fun t => (t.busState, t.trace)) = some (.waiting, []) := by
  decide
/-- H-13 -/
theorem test_ack_read_rise_ack :
    view (.ackReadRise true false) (inState .ackRead (some .mem)) (fun t => (t.busState, t.bitCount, t.trace)) =
      some (.reading, 8, []) := by decide
/-- H-14 -/
theorem test_ack_write_fall_drives_low :
    view (.ackWriteFall true true) { fresh with busState := .ackWrite, active := some .rtc } (fun t => t.sdaOut) = some false := by
  decide
/-- H-15 -/
theorem test_ack_write_rise_begins_writing :
    view (.ackWriteRise false false) { inState .ackWrite (some .rtc) with srIn := 0x3F, bitCount := 8 }
      (fun t => (t.busState, t.bitCount, t.srIn)) = some (.writing, 0, 0) := by decide
/-- H-16 -/
theorem test_nack_write_fall_drives_high :
    view (.nackWriteFall true true) { fresh with busState := .nackWrite, active := some .rtc, sdaOut := false }
      (fun t => t.sdaOut) = some true := by decide
/-- H-17 -/
theorem test_nack_write_rise_begins_writing :
    view (.nackWriteRise false true) { inState .nackWrite (some .rtc) with bitCount := 8 }
      (fun t => (t.busState, t.bitCount, t.srIn)) = some (.writing, 0, 0) := by decide
/-- H-18 -/
theorem test_reading_fall_fetches :
    view (.readingFall true true)
        { fresh with busState := .reading, active := some .rtc, bitCount := 8, rtcReg := 0x10, store := [(0x10, 0x96)], sdaOut := false }
        (fun t => (t.trace, t.srOut, t.rtcReg, t.bitCount, t.sdaOut)) =
      some ([.read .rtc 0x96], 0x96, 0x11, 7, true) := by decide
/-- H-19 -/
theorem test_reading_fall_next_bit :
    view (.readingFall true true) { fresh with busState := .reading, active := some .rtc, bitCount := 7, srOut := 0x96 }
      (fun t => (t.bitCount, t.sdaOut, t.trace)) = some (6, false, []) := by decide
/-- H-22 -/
theorem test_reading_rise_in_the_byte :
    view (.readingRise false false) { inState .reading (some .rtc) with bitCount := 5 } (fun t => (t.busState, t.bitCount)) =
      some (.reading, 5) := by decide
/-- H-23 -/
theorem test_reading_rise_ends_the_byte :
    view (.readingRise false true) (inState .reading (some .rtc)) (fun t => t.busState) = some .ackRead := by decide
/-- H-24 -/
theorem test_writing_fall_releases :
    view (.writingFall true true) { fresh with busState := .writing, active := some .rtc, sdaOut := false }
      (fun t => (t.sclOut, t.sdaOut)) = some (true, true) := by decide
/-- H-25 -/
theorem test_writing_rise_shifts :
    view (.writingRise true true) { inState .writing (some .rtc) with bitCount := 2, srIn := 0x02 } (fun t => (t.bitCount, t.srIn)) =
      some (3, 0x05) := by decide
/-- H-26 -/
theorem test_writing_rise_saves_at_the_checksum :
    view (.writingRise false false)
        { inState .writing (some .rtc) with bitCount := 7, srIn := 0x2D, rtcPhase := .dataPhase, rtcReg := 0x3F }
        (fun t => (t.store, t.rtcReg, t.busState, t.trace)) =
      some ([(0x3F, 0x5A)], 0x40, .ackWrite, [.write .rtc 0x5A .ack, .save [(0x3F, 0x5A)]]) := by decide
/-- H-27 -/
theorem test_waiting_fall_changes_nothing :
    view (.waitingFall true true) { fresh with busState := .waiting, active := some .rtc, sdaOut := false }
      (fun t => (t.busState, t.active, t.sdaOut)) = some (.waiting, some .rtc, false) := by decide
/-- H-28 -/
theorem test_waiting_rise_changes_nothing :
    view (.waitingRise true false) (inState .waiting (some .rtc)) (fun t => (t.busState, t.active, t.trace)) =
      some (.waiting, some .rtc, []) := by decide
/-- H-29 -/
theorem test_reading_without_responder_faults :
    view (.readingFall true false) { fresh with busState := .reading } id =
      some { fresh with busState := .reading, fault := some .noActiveResponder } := by decide
/-- H-30 -/
theorem test_writing_without_responder_faults :
    view (.writingRise false false) (inState .writing none) (fun t => (t.fault, t.prevClock, t.bitCount)) =
      some (some .noActiveResponder, false, 0) := by decide

/-! ## Detection (L2-DET) -/

/-- DET-7 -/
theorem test_start_drops_the_transaction :
    view (.start .reading)
        { fresh with busState := .reading, bitCount := 4, active := some .rtc, touched := true, srOut := 0x96, sdaOut := false }
        (fun t => (t.busState, t.active, t.touched, t.sdaOut, t.trace)) = some (.addressing, none, false, false, []) := by decide
/-- DET-10 -/
theorem test_stop_calls_the_rtc :
    view (.stop .waiting) { fresh with busState := .waiting, active := some .rtc, rtcPhase := .dataPhase, prevData := false }
        (fun t => (t.trace, t.rtcPhase, t.active, t.busState)) = some ([.stop .rtc], .addressPhase, none, .idle) := by decide
/-- DET-12 -/
theorem test_stop_of_an_idle_bus :
    view (.stop .idle) { fresh with prevData := false } (fun t => (t.busState, t.trace)) = some (.idle, []) := by decide
/-- DET-14 -/
theorem test_none_clock_low :
    view (.noneClockLow .writing false true) { inState .writing (some .rtc) with prevData := false } id =
      some (inState .writing (some .rtc)) := by decide
/-- 42_bus_detection.md R145 -/
theorem test_none_steady_low :
    view (.noneHighSteadyLow .idle) { fresh with prevData := false } id = some { fresh with prevData := false } := by decide
/-- DET-13 -/
theorem test_none_steady_high : view (.noneHighSteadyHigh .addressing) { fresh with busState := .addressing } id =
    some { fresh with busState := .addressing } := by decide
/-- DET-15: both pins change together. -/
theorem test_pin_change_simultaneous_rise :
    view (.pinChange true false) { inState .addressing none with bitCount := 2, srIn := 0x03 }
      (fun t => (t.busState, t.bitCount, t.srIn, t.prevClock, t.prevData)) = some (.addressing, 3, 0x06, true, false) := by decide
/-- DET-11 -/
theorem test_pin_change_stop :
    view (.pinChange true true) { fresh with busState := .writing, bitCount := 1, active := some .mem, prevData := false }
      (fun t => (t.trace, t.active, t.busState, t.bitCount)) = some ([.stop .mem], none, .idle, 1) := by decide

/-! ## The RTC responder (L2-RTC) -/

/-- RTC-1 -/
theorem test_rtc_start :
    view (.rtcStart 0x50 .read) { fresh with rtcPhase := .dataPhase, rtcReg := 0x22 } (fun t => (t.rtcPhase, t.rtcReg, t.trace)) =
      some (.addressPhase, 0x22, [.start .rtc 0x50 .read .ack]) := by decide
/-- RTC-2 -/
theorem test_rtc_write_address :
    view (.rtcWriteAddress 0x3F) fresh (fun t => (t.rtcReg, t.rtcPhase, t.store, t.trace)) =
      some (0x3F, .dataPhase, [], [.write .rtc 0x3F .ack]) := by decide
/-- RTC-4 -/
theorem test_rtc_write_data_wraps :
    view (.rtcWriteData 0x11) { fresh with rtcPhase := .dataPhase, rtcReg := 0xFF } (fun t => (t.store, t.rtcReg)) =
      some ([(0xFF, 0x11)], 0x00) := by decide
/-- RTC-6 -/
theorem test_rtc_write_data_saves :
    view (.rtcWriteData 0x5A) { fresh with rtcPhase := .dataPhase, rtcReg := 0x3F } (fun t => (t.store, t.rtcReg, t.trace)) =
      some ([(0x3F, 0x5A)], 0x40, [.write .rtc 0x5A .ack, .save [(0x3F, 0x5A)]]) := by decide
/-- RTC-12 -/
theorem test_rtc_read_above_the_window :
    view .rtcRead { fresh with rtcReg := 0x10, store := [(0x02, 0x59), (0x10, 0x96)] } (fun t => (t.trace, t.store, t.rtcReg)) =
      some ([.read .rtc 0x96], [(0x02, 0x59), (0x10, 0x96)], 0x11) := by decide
/-- RTC-13 -/
theorem test_rtc_read_wraps :
    view .rtcRead { fresh with rtcReg := 0xFF, store := [(0xFF, 0x33)] } (fun t => (t.trace, t.rtcReg)) =
      some ([.read .rtc 0x33], 0x00) := by decide
/-- RTC-14 -/
theorem test_rtc_stop :
    view .rtcStop { fresh with rtcPhase := .dataPhase, rtcReg := 0x41 } (fun t => (t.rtcPhase, t.rtcReg, t.trace)) =
      some (.addressPhase, 0x41, [.stop .rtc]) := by decide
/-- R105 -/
theorem test_rtc_read_ack : view (.rtcReadAck .nack) fresh id = some fresh := by decide

/-- The draw T0 of the spec's vectors: 7, 35, 14, 12, 11, 4, 2026. -/
def drawT0 : TimeSample := { seconds := 7, minutes := 35, hours := 14, day := 12, month := 11, weekday := 4, year := 2026 }
/-- The upper bounds of the draw: 99, 99, 99, 39, 19, 7, 3. -/
def drawMax : TimeSample := { seconds := 99, minutes := 99, hours := 99, day := 39, month := 19, weekday := 7, year := 3 }

/-- Time-byte vectors: 00 07 35 14 92 91, byte 0x00 and the bytes from 0x07 kept. -/
theorem test_time_bytes :
    [0, 1, 2, 3, 4, 5, 6, 7].map (writeTime drawT0 { fresh with store := [(0x01, 0x55), (0x07, 0x44)] }).store.read =
      [0x00, 0x00, 0x07, 0x35, 0x14, 0x92, 0x91, 0x44] := by decide
/-- Time-byte vectors: 00 99 99 99 F9 F9. -/
theorem test_time_bytes_at_the_bounds :
    [1, 2, 3, 4, 5, 6].map (writeTime drawMax fresh).store.read = [0x00, 0x99, 0x99, 0x99, 0xF9, 0xF9] := by decide

/-! ## The EEPROM responder (L2-MEM) -/

/-- MEM-1 -/
theorem test_mem_start :
    view (.memStart 0x54 .read) { fresh with memReg := 0x05 } (fun t => (t.memReg, t.trace)) =
      some (0x05, [.start .mem 0x54 .read .ack]) := by decide
/-- MEM-3 -/
theorem test_mem_write_drops_bit_seven :
    view (.memWrite 0x85) fresh (fun t => (t.memReg, t.trace)) = some (0x05, [.write .mem 0x85 .ack]) := by decide
/-- MEM-4 -/
theorem test_mem_write_all_ones : view (.memWrite 0xFF) fresh (fun t => t.memReg) = some 0x7F := by decide
/-- MEM-5 -/
theorem test_mem_read : view .memRead { fresh with memReg := 0x05 } (fun t => (t.memReg, t.trace)) =
    some (0x06, [.read .mem (Config.spdTable 0x05)]) := rfl
/-- MEM-6 -/
theorem test_mem_read_wraps : view .memRead { fresh with memReg := 0x7F } (fun t => (t.memReg, t.trace)) =
    some (0x00, [.read .mem (Config.spdTable 0x7F)]) := rfl
/-- MEM-7 -/
theorem test_mem_stop :
    view .memStop { fresh with memReg := 0x09 } (fun t => (t.memReg, t.trace)) = some (0x09, [.stop .mem]) := by decide
/-- R124 -/
theorem test_mem_read_ack : view (.memReadAck .ack) fresh id = some fresh := by decide

/-! ## The store and the host-ops (L2-CS, L2-RST) -/

/-- 20_memory.md R62 -/
theorem test_save_request :
    view .saveRequest { fresh with store := [(0x40, 0x07)] } (fun t => (t.store, t.trace)) =
      some ([(0x40, 0x07)], [.save [(0x40, 0x07)]]) := by decide
/-- CS-1, CS-3, CS-4, CS-5 -/
theorem test_checksums :
    Memory.checksum [] = 0x01 ∧ Memory.checksum [(0x10, 0x05), (0x3E, 0xFF), (0x40, 0x10)] = 0x15 ∧
    Memory.checksum [(0x05, 0x99), (0x3F, 0x77)] = 0x01 ∧ Memory.checksum [(0xFF, 0xFF)] = 0x00 := by decide +kernel
/-- RST-1: the registers after a reset in the middle of a read, and no event. -/
theorem test_reset_registers :
    view (.reset 0) { inState .reading (some .rtc) with bitCount := 5, rtcReg := 0x01, touched := true, sdaOut := false, memReg := 9 }
        (fun t => (t.busState, t.active, t.bitCount, t.rtcReg, t.rtcPhase, t.memReg, t.trace)) =
      some (.addressing, none, 0, 0, .addressPhase, 0, []) := rfl
/-- RST-4 -/
theorem test_reset_of_a_faulted_block : nextState (exec (.reset 0) { fresh with fault := some .noActiveResponder }) = none := rfl
/-- 70_reset_and_hazards.md R240 -/
theorem test_power_on_clears_the_fault :
    view (.powerOn 0) { fresh with fault := some .noActiveResponder, trace := [.stop .rtc] } (fun t => (t.fault, t.trace)) =
      some (none, []) := rfl

/-- A write of the unlisted value removes the entry; equal stores are equal lists. -/
theorem test_memory_canonical :
    Memory.write [(0x10, 0x05), (0x40, 0x10)] 0x10 0x00 = [(0x40, 0x10)] ∧
    Memory.write [(0x40, 0x10)] 0x10 0x05 = [(0x10, 0x05), (0x40, 0x10)] ∧
    Memory.wf [(0x40, 0x10), (0x10, 0x05)] = false ∧ Memory.wf [(0x40, 0x00)] = false ∧ Memory.wf [(0x100, 0x01)] = false := by
  decide

/-- HAZ-2: a raw START in the acknowledge slot of an address. -/
theorem test_script_raw_inputs :
    (nextState (Script.run [.pins false true, .pins true true, .pins true false]
        { fresh with busState := .ackReadAddr, active := some .rtc, prevClock := false, sdaOut := false })).map
      (fun t => (t.busState, t.active, t.touched)) = some (.addressing, none, false) := by decide

/-! ## Witnesses: a concrete state and operands that meet all hypotheses of each obligation -/

/-- A reading transaction of the EEPROM. -/
def reading : State := { inState .reading (some .mem) with bitCount := 8, prevClock := true }

/-- `fresh` meets the invariant. -/
theorem fresh_inv : fresh.Inv where
  unfaulted := rfl
  clockReleased := rfl
  rtcRegIsByte := by decide
  memRegIsIndex := by decide
  responderHeld := by decide
  responderOnlyThen := by decide
  receivedByteUnfinished := by decide
  sentByteCount := by decide
  answerCount := by decide
  waitingReleased := by decide
  answerSlotReleased := by decide
  neverNacksWrite := by decide
  storeCanonical := by decide

/-- `reading` meets the invariant at the largest count. -/
theorem reading_inv : reading.Inv where
  unfaulted := rfl
  clockReleased := rfl
  rtcRegIsByte := by decide
  memRegIsIndex := by decide
  responderHeld := by decide
  responderOnlyThen := by decide
  receivedByteUnfinished := by decide
  sentByteCount := by decide
  answerCount := by decide
  waitingReleased := by decide
  answerSlotReleased := by decide
  neverNacksWrite := by decide
  storeCanonical := by decide

theorem witness_EveryDecodedWordIsTheEncoding :
    decode ⟨.responderCall, 0b00011, 0xFF⟩ = .ok (.rtcWriteData 0xFF) := rfl

theorem witness_TableRowsSelectTheirInstruction :
    ("Waiting.RISE", (0x82 : Byte), (0xFA : Byte)) ∈ opcodeRows .dispatch ∧ (0x87 : Byte) &&& 0xFA = 0x82 ∧
      decode ⟨.dispatch, 0x87, 0⟩ = .ok (.waitingRise true true) := ⟨by decide, by decide, rfl⟩

/-- Both clauses, at the ends of their ranges. -/
theorem witness_UnassignedWordsAreRejected :
    (0x90 ≤ (0x90 : Byte).toNat ∧ 0x90 ≤ (0xFF : Byte).toNat) ∧
    ((0b01010 : Byte).toNat < 32 ∧ 5 ≤ (0b01010 : Byte).toNat / 2 % 8) ∧
    ((0b11111 : Byte).toNat < 32 ∧ 5 ≤ (0b11111 : Byte).toNat / 2 % 8) := by decide

/-- Both ways to describe the state: a dispatch word, and a host-op. -/
theorem witness_StepRunsThePendingCall :
    decode ⟨.dispatch, 0x0E, 0⟩ = .ok (.start .idle) ∧ describes (.start .idle) fresh = true ∧
    decode ⟨.hostOp, 1, 0⟩ = .ok (.reset 0) ∧ (⟨.hostOp, 1, 0⟩ : EventWord).format = .hostOp := ⟨rfl, by decide, rfl, rfl⟩

theorem witness_PlacedTableWordRunsNext : decodeTableWord 8 0x72 = some (.writingRise false false) := by decide

theorem witness_StepWithoutCallsHoldsTheState : fresh.calls = [] := rfl

theorem witness_UnusableWordsAreRefused :
    decode ⟨.dispatch, 0x90, 0⟩ = .error .unassignedStateCode ∧
    decode ⟨.dispatch, 0x68, 0⟩ = .ok (.readingFall false false) ∧ describes (.readingFall false false) fresh = false :=
  ⟨rfl, rfl, by decide⟩

/-- With an edge in Reading, where the premise says something. -/
theorem witness_PinChangeCompletes :
    reading.fault = none ∧ (false ≠ reading.prevClock) ∧ reading.busState = .reading ∧ reading.active ≠ none := by decide

theorem witness_DispatchRowsTakeTheirSample :
    (encode (.idleRise true true)).format = .dispatch ∧
      ∃ t, exec (.idleRise true true) fresh = .next t ∧ t.fault = none := ⟨rfl, _, rfl, rfl⟩

theorem witness_EveryStepKeepsTheInvariant :
    State.Inv { fresh with calls := [⟨.hostOp, 3, 0b10⟩] } ∧
      ∃ t, step { fresh with calls := [⟨.hostOp, 3, 0b10⟩] } = .next t := by
  refine ⟨?_, _, rfl⟩
  obtain ⟨h1, h2, h3, h4, h5, h6, h7, h8, h9, h10, h11, h12, h13⟩ := fresh_inv
  exact ⟨h1, h2, h3, h4, h5, h6, h7, h8, h9, h10, h11, h12, h13⟩

theorem witness_NoFaultFromTheInvariant : fresh.Inv ∧ reading.Inv := ⟨fresh_inv, reading_inv⟩

theorem witness_ClockLineIsNeverDrivenLow :
    fresh.sclOut = true ∧ ∃ t, step { fresh with calls := [⟨.hostOp, 3, 0b01⟩] } = .next t := ⟨rfl, _, rfl⟩

theorem witness_OutputsChangeOnlyOnFallingEdges :
    (∃ t, exec (.pinChange true false) fresh = .next t) ∧ ¬(fresh.prevClock = true ∧ true = false) := ⟨⟨_, rfl⟩, by decide⟩

theorem witness_EnabledDevicesChangeOnlyAtReset :
    (∃ t, exec .saveRequest fresh = .next t) ∧ (∀ mask, Instr.saveRequest ≠ .powerOn mask) ∧
      ∀ mask, Instr.saveRequest ≠ .reset mask := ⟨⟨_, rfl⟩, by simp, by simp⟩

theorem witness_PinChangeReachesTheStoreOnlyThroughTheRtc :
    (∃ t, exec (.pinChange true false) reading = .next t) ∧ reading.active ≠ some .rtc := ⟨⟨_, rfl⟩, by decide⟩

/-- The eighth bit of a data byte for address 0x3F: both sides of the equivalence. -/
def savingState : State :=
  { inState .writing (some .rtc) with bitCount := 7, srIn := 0x2D, rtcPhase := .dataPhase, rtcReg := 0x3F }

theorem witness_SaveRequestsOfAPinChange :
    savingState.fault = none ∧ savingState.prevClock = false ∧ savingState.busState = .writing ∧ savingState.bitCount = 7 ∧
      savingState.active = some .rtc ∧ savingState.rtcPhase = .dataPhase ∧ savingState.rtcReg.toNat % 256 = 0x3F := by decide

theorem witness_StopCallsOfAPinChange :
    view (.pinChange true true) { fresh with busState := .waiting, active := some .rtc, prevData := false } (fun t => t.trace) =
      some [.stop .rtc] := by decide

/-- The unfaulted state that the result statements ask for, and the membership of the grouped ones. -/
theorem witness_unfaulted : fresh.fault = none := rfl

/-- StopConditionResult: one state for each of its three clauses. -/
theorem witness_StopConditionResult :
    (inState .waiting (some .rtc)).fault = none ∧ (inState .waiting (some .rtc)).active = some .rtc ∧
    (inState .waiting (some .mem)).active = some .mem ∧ fresh.active = none := by decide

theorem witness_grouped_rows :
    Instr.ackReadFall true false ∈ [Instr.idleFall true false, .addressingFall true false, .ackReadFall true false] ∧
    Instr.ackWriteFall true false ∈ [Instr.ackReadAddrFall true false, .ackWriteFall true false] ∧
    Instr.waitingRise true false ∈ [Instr.idleRise true false, .waitingFall true false, .waitingRise true false] ∧
    Instr.nackWriteRise true false ∈ [Instr.ackWriteRise true false, .nackWriteRise true false] ∧
    Instr.writingRise true false ∈
      [Instr.readingFall true false, .readingRise true false, .writingFall true false, .writingRise true false] := by decide

theorem witness_WritingFallReleasesBothLines :
    (inState .writing (some .mem)).fault = none ∧ (inState .writing (some .mem)).active ≠ none ∧
      (inState .writing none).fault = none ∧ (inState .writing none).active = none := by decide

/-- ReadingRiseEndsTheByteAtZero: count 0, and the counts 1 and 8. -/
theorem witness_ReadingRiseEndsTheByteAtZero :
    (inState .reading (some .rtc)).fault = none ∧ (inState .reading (some .rtc)).active ≠ none ∧
      (inState .reading (some .rtc)).bitCount = 0 ∧ reading.active ≠ none ∧ reading.bitCount ≠ 0 ∧
      { reading with bitCount := 1 }.bitCount ≠ 0 ∧ (inState .reading none).active = none := by decide

/-- AddressingRiseShiftsAndRecognises: a state for each clause. -/
theorem witness_AddressingRiseShiftsAndRecognises :
    let s : Byte → State := fun b => { inState .addressing none with bitCount := 7, srIn := b }
    (inState .addressing none).fault = none ∧ (inState .addressing none).bitCount ≠ 7 ∧
    (s 0x50).bitCount = 7 ∧ (s 0x50).rtcEnabled = true ∧ (s 0x50).memEnabled = true ∧
    ((s 0x50).srIn <<< 1 ||| (if true then 1 else 0) = 0xA1) ∧ ((s 0x50).srIn <<< 1 ||| (if false then 1 else 0) = 0xA0) ∧
    ((s 0x54).srIn <<< 1 ||| (if true then 1 else 0) = 0xA9) ∧ ((s 0x54).srIn <<< 1 ||| (if false then 1 else 0) = 0xA8) ∧
    ((s 0x51).srIn <<< 1 ||| (if true then 1 else 0) = 0xA3) := by decide

/-- WritingRiseShiftsAndDelivers: the last bit and an earlier one, for each responder. -/
theorem witness_WritingRiseShiftsAndDelivers :
    savingState.fault = none ∧ savingState.active = some .rtc ∧ savingState.bitCount = 7 ∧
      (inState .writing (some .mem)).active = some .mem ∧ (inState .writing (some .mem)).bitCount ≠ 7 := by decide

/-- ReadingFallDrivesTheNextBit: counts 0, 1, 7 and 8. -/
theorem witness_ReadingFallDrivesTheNextBit :
    reading.fault = none ∧ reading.active = some .mem ∧ reading.bitCount = 8 ∧
      { reading with bitCount := 0 }.bitCount = 0 ∧ 0 < { reading with bitCount := 1 }.bitCount.toNat ∧
      { reading with bitCount := 7 }.bitCount.toNat < 8 := by decide

theorem witness_MissingResponderRaisesTheFault :
    (inState .reading none).fault = none ∧ (inState .reading none).active = none ∧ (inState .reading none).busState = .reading ∧
      true ≠ (inState .reading none).prevClock := by decide

theorem witness_FaultedBlockTakesNoStep :
    { fresh with fault := some .noActiveResponder }.fault = some .noActiveResponder ∧
      ∀ mask, Instr.pinChange true true ≠ .powerOn mask := ⟨rfl, by simp⟩

theorem witness_RtcDataWriteResult : fresh.fault = none ∧ fresh.store.wf = true := by decide

/-- The first and the last address above the time window. -/
theorem witness_RtcReadAboveTheTimeWindow :
    { fresh with rtcReg := 0x10 }.fault = none ∧ 0x10 ≤ { fresh with rtcReg := 0x10 }.rtcReg.toNat ∧
      0x10 ≤ { fresh with rtcReg := 0xFF }.rtcReg.toNat := by decide

/-- The first and the last address of the time window. -/
theorem witness_RtcReadInTheTimeWindow :
    fresh.fault = none ∧ fresh.store.wf = true ∧ fresh.rtcReg.toNat < 0x10 ∧ { fresh with rtcReg := 0x0F }.rtcReg.toNat < 0x10 := by
  decide

theorem witness_MemReadResult :
    fresh.memReg.toNat ≤ 0x7F ∧ { fresh with memReg := 0x7F }.fault = none ∧ { fresh with memReg := 0x7F }.memReg.toNat ≤ 0x7F := by
  decide

theorem witness_ChecksumCoversTheOtherPersistentBytes : Memory.wf [(0x10, 0x05), (0x3E, 0xFF), (0x40, 0x10)] = true := by decide

theorem witness_ResetStateIsAPowerOn : fresh.draws = 0 := rfl

theorem witness_AcknowledgedReadPrefetches :
    (inState .ackRead (some .rtc)).fault = none ∧ (inState .ackRead (some .rtc)).active = some .rtc ∧
      (inState .ackRead (some .mem)).active = some .mem := by decide

end Sys2Proof.Tests
end

/-! ### The checksum of the configuration store (20_memory.md R60) -/

section

namespace Sys2Proof.Machine

/-- The model's recursive sum is the sum over the list of the range's addresses. -/
theorem Memory.sumFrom_eq_sum_range' (m : Memory) (n lo : Nat) :
    m.sumFrom n lo = ((List.range' lo n).map fun a => (m.read a).toNat).sum := by
  induction n generalizing lo with
  | zero => rfl
  | succ n ih => rw [Memory.sumFrom, ih, List.range'_succ, List.map_cons, List.sum_cons]

/-- The checksum as one sum over the 239 addresses it covers (20_memory.md R60). -/
theorem Memory.checksum_eq_ofNat_sum (m : Memory) :
    m.checksum = BitVec.ofNat 8
      (((List.range' 0x40 192 ++ List.range' 0x10 47).map fun a => (m.read a).toNat).sum + 1) := by
  rw [Memory.checksum, Memory.sumFrom_eq_sum_range', Memory.sumFrom_eq_sum_range', List.map_append, List.sum_append]

/-- A read after `RecomputeChecksum()` (20_memory.md R60): the checksum at its address, the old byte elsewhere. -/
theorem Memory.read_recomputeChecksum {m : Memory} (h : m.wf = true) (a : Nat) :
    m.recomputeChecksum.read a = if a = 0x3F then m.checksum else m.read a :=
  Memory.read_write h Memory.checksumAddr a m.checksum

/-- Settles O53: the checksum is the list sum, which the byte already takes modulo 256, and it is the only byte
written. -/
theorem checksumCoversTheOtherPersistentBytes : Obligations.ChecksumCoversTheOtherPersistentBytes := by
  intro m hwf sum
  constructor
  · have hmod : BitVec.ofNat 8 ((sum + 1) % 256) = BitVec.ofNat 8 (sum + 1) :=
      BitVec.eq_of_toNat_eq (by simp)
    rw [Memory.read_recomputeChecksum hwf, if_pos rfl, hmod]
    exact Memory.checksum_eq_ofNat_sum m
  · intro a ha
    rw [Memory.read_recomputeChecksum hwf, if_neg ha]

end Sys2Proof.Machine
end

/-! ### The RTC responder's calls (40_rtc_responder.md R100 to R105) -/

section

namespace Sys2Proof.Machine

/-- `zext_16(b)` as a number (40_rtc_responder.md R101). -/
theorem rtcRegOf_eq_ofNat (b : Byte) : rtcRegOf b = BitVec.ofNat 16 b.toNat :=
  (BitVec.ofNat_toNat 16 b).symm

/-- `rtc_reg[7:0]` is the register modulo 256. -/
theorem toNat_rtcAddress (s : State) : (rtcAddress s).toNat = s.rtcReg.toNat % 256 :=
  BitVec.toNat_setWidth 8 s.rtcReg

/-- The checksum address is recognised by the register modulo 256. -/
theorem rtcAddress_eq_checksumAddr_iff (s : State) : rtcAddress s = 0x3F ↔ s.rtcReg.toNat % 256 = 0x3F := by
  rw [← toNat_rtcAddress]
  exact BitVec.toNat_inj.symm

/-- The register's successor under the mask 0xFF is its successor modulo 256 (10_state.md R31). -/
theorem advanced_rtcReg_eq_ofNat (r : BitVec 16) : (r + 1) &&& 0x00FF = BitVec.ofNat 16 ((r.toNat + 1) % 256) := by
  have hmask (n : Nat) : n &&& 255 = n % 256 := Nat.and_two_pow_sub_one_eq_mod n 8
  apply BitVec.eq_of_toNat_eq
  suffices (r.toNat + 1) % 256 = (r.toNat + 1) % 256 % 65536 by simpa [hmask]
  omega

/-- The save of 20_memory.md R61 as an event: it leaves every field but the trace. -/
theorem saveIfChecksum_eq (a : Byte) (s : State) :
    saveIfChecksum a s = { s with trace := s.trace ++ if a = 0x3F then [.save s.store] else [] } := by
  unfold saveIfChecksum
  split
  · rfl
  · rw [List.append_nil]

/-- The full effect of a data write (40_rtc_responder.md R102), which `rtcWriteData_frame` gives up to the save. -/
theorem rtcWriteData_state (b : Byte) (s : State) :
    (rtcWriteData b s).1 = { s with
      store := s.store.write (s.rtcReg.toNat % 256) b
      rtcReg := BitVec.ofNat 16 ((s.rtcReg.toNat + 1) % 256)
      trace := s.trace ++ [.write .rtc b .ack] ++
        (if s.rtcReg.toNat % 256 = 0x3F then [.save (s.store.write (s.rtcReg.toNat % 256) b)] else []) } := by
  rw [rtcWriteData, saveIfChecksum_eq]
  simp only [rtcAddress_eq_checksumAddr_iff, storeWrite, toNat_rtcAddress, advanceRtcReg, emit, advanced_rtcReg_eq_ofNat]

/-- Settles O43: the data write's full effect, and the store's own law of a read after a write. -/
theorem rtcDataWriteResult : Obligations.RtcDataWriteResult := by
  intro b s hfault hwf
  have hread := Memory.read_write hwf (s.rtcReg.toNat % 256) (v := b)
  refine ⟨(rtcWriteData b s).1, whenUnfaulted_next hfault fun s => (rtcWriteData b s).1, ?_⟩
  rw [rtcWriteData_state]
  refine ⟨rfl, ?_, ?_, ?_⟩
  · exact (hread _).trans (if_pos rfl)
  · intro a ha
    exact (hread a).trans (if_neg ha)
  · exact Memory.wf_write hwf (Nat.mod_lt _ (by decide)) b

/-- Settles O41: an unfaulted block runs `rtcStart`, which is that update. -/
theorem rtcStartResult : Obligations.RtcStartResult := by
  intro addr7 dir s hfault
  exact whenUnfaulted_next hfault fun s => (rtcStart addr7 dir s).1

/-- Settles O42: an unfaulted block runs `rtcWriteAddress`, whose register value is the byte as a number. -/
theorem rtcAddressWriteResult : Obligations.RtcAddressWriteResult := by
  intro b s hfault
  rw [← rtcRegOf_eq_ofNat]
  exact whenUnfaulted_next hfault fun s => (rtcWriteAddress b s).1

/-- Settles O46: an unfaulted block runs `rtcStop`, which is that update. -/
theorem rtcStopResult : Obligations.RtcStopResult := by
  intro s hfault
  exact whenUnfaulted_next hfault rtcStop

/-- Settles O47: both rows run the identity on an unfaulted block. -/
theorem readAckChangesNothing : Obligations.ReadAckChangesNothing := by
  intro a s hfault
  exact ⟨whenUnfaulted_next hfault id, whenUnfaulted_next hfault id⟩

end Sys2Proof.Machine
end

/-! ### The EEPROM responder's calls (41_memory_responder.md R120, R122, R123) -/

section

namespace Sys2Proof.Machine

/-- `b & 0x7F` is the byte modulo 128 (41_memory_responder.md R121). -/
theorem memRegOf_eq_ofNat (b : Byte) : memRegOf b = BitVec.ofNat 8 (b.toNat % 128) := by
  have hmask (n : Nat) : n &&& 127 = n % 128 := Nat.and_two_pow_sub_one_eq_mod n 7
  apply BitVec.eq_of_toNat_eq
  suffices b.toNat % 128 = b.toNat % 128 % 256 by simpa [memRegOf, hmask]
  omega

/-- The register's successor under the mask 0x7F is its successor modulo 128 (10_state.md R33): the carry out of
the byte is a multiple of 128. -/
theorem advanced_memReg_eq_ofNat (r : BitVec 8) : (r + 1) &&& 0x7F = BitVec.ofNat 8 ((r.toNat + 1) % 128) := by
  have hcarry : (r + 1).toNat % 128 = (r.toNat + 1) % 128 := by
    rw [BitVec.toNat_add]
    exact Nat.mod_mod_of_dvd _ (by decide)
  rw [← hcarry]
  exact memRegOf_eq_ofNat (r + 1)

/-- The full effect of a read (41_memory_responder.md R122). -/
theorem memRead_state (s : State) :
    (memRead s).1 = { s with
      memReg := BitVec.ofNat 8 ((s.memReg.toNat + 1) % 128)
      trace := s.trace ++ [.read .mem (Config.spdTable (BitVec.ofNat 7 s.memReg.toNat))] } := by
  rw [memRead, advanceMemReg, advanced_memReg_eq_ofNat, spdRead, ← BitVec.ofNat_toNat]
  rfl

/-- Settles O50: an unfaulted block runs `memRead`. The index is the register's low 7 bits, so the effect is the
same above 0x7F too. -/
theorem memReadResult : Obligations.MemReadResult := by
  intro s hfault _
  rw [← memRead_state]
  exact whenUnfaulted_next hfault fun s => (memRead s).1

/-- Settles O48: an unfaulted block runs `memStart`, which is that update. -/
theorem memStartResult : Obligations.MemStartResult := by
  intro addr7 dir s hfault
  exact whenUnfaulted_next hfault fun s => (memStart addr7 dir s).1

/-- Settles O51: an unfaulted block runs `memStop`, which is that update. -/
theorem memStopResult : Obligations.MemStopResult := by
  intro s hfault
  exact whenUnfaulted_next hfault memStop

end Sys2Proof.Machine
end

/-! ### START, STOP and the calls without an edge (42_bus_detection.md R143 to R145) -/

section

namespace Sys2Proof.Machine

theorem closeTransaction_of_active {s : State} {r : Responder} (h : s.active = some r) :
    closeTransaction s = callStop r s := by
  rw [closeTransaction, h]

theorem closeTransaction_of_inactive {s : State} (h : s.active = none) : closeTransaction s = s := by
  rw [closeTransaction, h]

/-- R144 with an open transaction: the stop call of its responder. -/
theorem stopCondition_of_active {s : State} {r : Responder} (h : s.active = some r) :
    stopCondition s = { callStop r s with active := none, busState := .idle } := by
  rw [stopCondition, closeTransaction_of_active h]

/-- R144 without a transaction, where `active` is none already. -/
theorem stopCondition_of_inactive {s : State} (h : s.active = none) :
    stopCondition s = { s with busState := .idle } := by
  rw [stopCondition, closeTransaction_of_inactive h, ← h]

/-- Settles O24: an unfaulted block takes the sample and runs `startCondition`, which is that update. -/
theorem startConditionResult : Obligations.StartConditionResult := by
  intro st s hfault
  exact pinEvent_next hfault true false startCondition

/-- Settles O25: the stop condition after the sample, which leaves `active`, so it picks the responder whose stop
call is made. -/
theorem stopConditionResult : Obligations.StopConditionResult := by
  intro st s hfault
  have hrun : exec (.stop st) s = .next (stopCondition (sample true true s)) :=
    pinEvent_next hfault true true stopCondition
  have hactive : (sample true true s).active = s.active := rfl
  refine ⟨fun hrtc => ?_, fun hmem => ?_, fun hnone => ?_⟩
  · rw [hrun, stopCondition_of_active (hactive.trans hrtc)]
    rfl
  · rw [hrun, stopCondition_of_active (hactive.trans hmem)]
    rfl
  · rw [hrun, stopCondition_of_inactive (hactive.trans hnone)]
    rfl

/-- Settles O26: each row runs `noEdge`, the identity, after the sample of its word. -/
theorem noEdgeResult : Obligations.NoEdgeResult := by
  intro st pd d s hfault
  exact ⟨pinEvent_next hfault false d noEdge, pinEvent_next hfault true false noEdge,
    pinEvent_next hfault true true noEdge⟩

end Sys2Proof.Machine
end

/-! ### The edges of the bus states (43_bus_states.md R160 to R162, R164 to R166, R168 to R171, R173,
R174, R176, R177) -/

section

namespace Sys2Proof.Machine

/-- R173: the byte is over at count 0. -/
theorem readingRise_of_zero {s : State} (h : s.bitCount = 0) : readingRise s = { s with busState := .ackRead } :=
  if_pos h

/-- R173: within the byte nothing changes. -/
theorem readingRise_of_nonzero {s : State} (h : s.bitCount ≠ 0) : readingRise s = s := if_neg h

/-- A row of Reading or Writing with an active responder: the sample update, then its handler. -/
theorem responderEdge_next {s : State} (hfault : s.fault = none) (hactive : s.active ≠ none) (c d : Level)
    (k : State → State) : whenUnfaulted (edgeWithResponder c d k) s = .next (k (sample c d s)) := by
  obtain ⟨r, hr⟩ := Option.ne_none_iff_exists'.mp hactive
  rw [whenUnfaulted_next hfault, edgeWithResponder_some hr]

/-- A row of Reading or Writing without one: the fault of 42_bus_detection.md R147. -/
theorem responderEdge_raises {s : State} (hfault : s.fault = none) (hactive : s.active = none) (c d : Level)
    (k : State → State) :
    whenUnfaulted (edgeWithResponder c d k) s = .next (raiseFault .noActiveResponder s) := by
  rw [whenUnfaulted_next hfault, edgeWithResponder_none hactive]

/-- Settles O27: after the sample of a falling edge each of the three handlers is `release`. -/
theorem releasingFallsReleaseBothLines : Obligations.ReleasingFallsReleaseBothLines := by
  intro i pd d s hi hfault
  have hrelease := pinEvent_next hfault false d release
  simp only [List.mem_cons, List.not_mem_nil, or_false] at hi
  obtain rfl | rfl | rfl := hi <;> exact ⟨false, d, hrelease⟩

/-- Settles O28: the handler is `release`, run only when a responder is active. -/
theorem writingFallReleasesBothLines : Obligations.WritingFallReleasesBothLines := by
  intro pd d s hfault
  constructor
  · intro hactive
    exact ⟨false, d, responderEdge_next hfault hactive false d writingFall⟩
  · intro hnone
    exact ⟨_, responderEdge_raises hfault hnone false d writingFall, raiseFault_fault _ s⟩

/-- Settles O29: after the sample of a falling edge both handlers drive the data line to 0. -/
theorem acknowledgingFallsDriveDataLow : Obligations.AcknowledgingFallsDriveDataLow := by
  intro i pd d s hi hfault
  have hlow := pinEvent_next hfault false d (driveData false)
  simp only [List.mem_cons, List.not_mem_nil, or_false] at hi
  obtain rfl | rfl := hi <;> exact ⟨false, d, hlow⟩

/-- Settles O30: after the sample of a falling edge the handler drives the data line to 1. -/
theorem nackWriteFallDrivesDataHigh : Obligations.NackWriteFallDrivesDataHigh := by
  intro pd d s hfault
  exact ⟨false, d, pinEvent_next hfault false d nackWriteFall⟩

/-- Settles O31: the three handlers are the identity, so the edge's own sample is all that is left. -/
theorem edgesOfIdleRiseAndWaitingChangeNothing : Obligations.EdgesOfIdleRiseAndWaitingChangeNothing := by
  intro i pd d s hi hfault
  simp only [List.mem_cons, List.not_mem_nil, or_false] at hi
  obtain rfl | rfl | rfl := hi
  · exact ⟨true, d, pinEvent_next hfault true d idleRise⟩
  · exact ⟨false, d, pinEvent_next hfault false d waitingFall⟩
  · exact ⟨true, d, pinEvent_next hfault true d waitingRise⟩

/-- Settles O32: the handler is that update, after the sample of a rising edge. -/
theorem ackReadAddrRiseBeginsReading : Obligations.AckReadAddrRiseBeginsReading := by
  intro pd d s hfault
  exact ⟨true, d, pinEvent_next hfault true d ackReadAddrRise⟩

/-- Settles O33: both handlers are `beginWriteByte`, after the sample of a rising edge. -/
theorem writeAnswerRisesBeginWriting : Obligations.WriteAnswerRisesBeginWriting := by
  intro i pd d s hi hfault
  have hbegin := pinEvent_next hfault true d beginWriteByte
  simp only [List.mem_cons, List.not_mem_nil, or_false] at hi
  obtain rfl | rfl := hi <;> exact ⟨true, d, hbegin⟩

/-- Settles O35: the sample leaves the count, which then picks the branch of the handler. -/
theorem readingRiseEndsTheByteAtZero : Obligations.ReadingRiseEndsTheByteAtZero := by
  intro pd d s hfault
  have hcount : (sample true d s).bitCount = s.bitCount := sample_bitCount true d s
  have hrun (hactive : s.active ≠ none) := responderEdge_next hfault hactive true d readingRise
  refine ⟨fun hactive hzero => ?_, fun hactive hnonzero => ?_, fun hnone => ?_⟩
  · exact ⟨true, d, (hrun hactive).trans (congrArg Host.Outcome.next (readingRise_of_zero (hcount.trans hzero)))⟩
  · exact ⟨true, d, (hrun hactive).trans (congrArg Host.Outcome.next (readingRise_of_nonzero (hcount ▸ hnonzero)))⟩
  · exact ⟨_, responderEdge_raises hfault hnone true d readingRise, raiseFault_fault _ s⟩

end Sys2Proof.Machine
end

/-! ### The words of the instructions (30_encoding.md R71 to R82, spec/opcode_table.json) -/

section

namespace Sys2Proof

/-! #### Dispatch words: the row of the fields, and the fields of the row -/

theorem dispatchInstr_fall (st : BusState) (pd d : Level) : dispatchInstr st true pd false d = fallInstr st pd d := by
  cases pd <;> rfl

theorem dispatchInstr_rise (st : BusState) (pd d : Level) : dispatchInstr st false pd true d = riseInstr st pd d := by
  cases pd <;> rfl

theorem dispatchInstr_clockLow (st : BusState) (pd d : Level) :
    dispatchInstr st false pd false d = .noneClockLow st pd d := by
  cases pd <;> rfl

theorem encode_fallInstr (st : BusState) (pd d : Level) :
    encode (fallInstr st pd d) = dispatchWord st true pd false d := by
  cases st <;> rfl

theorem encode_riseInstr (st : BusState) (pd d : Level) :
    encode (riseInstr st pd d) = dispatchWord st false pd true d := by
  cases st <;> rfl

/-- The row that the fields of a dispatch word select is encoded by that word. -/
theorem encode_dispatchInstr (st : BusState) :
    ∀ pc pd c d : Level, encode (dispatchInstr st pc pd c d) = dispatchWord st pc pd c d
  | true, true, true, false => rfl
  | true, false, true, true => rfl
  | true, false, true, false => rfl
  | true, true, true, true => rfl
  | true, pd, false, d => by rw [dispatchInstr_fall, encode_fallInstr]
  | false, pd, true, d => by rw [dispatchInstr_rise, encode_riseInstr]
  | false, pd, false, d => by rw [dispatchInstr_clockLow]; rfl

/-- An instruction of the dispatch format is the row that some state and two samples select. -/
theorem exists_dispatchInstr {i : Instr} (h : (encode i).format = .dispatch) :
    ∃ st pc pd c d, i = dispatchInstr st pc pd c d := by
  have fall (st : BusState) (pd d : Level) : ∃ st' pc pd' c d', fallInstr st pd d = dispatchInstr st' pc pd' c d' :=
    ⟨st, true, pd, false, d, (dispatchInstr_fall st pd d).symm⟩
  have rise (st : BusState) (pd d : Level) : ∃ st' pc pd' c d', riseInstr st pd d = dispatchInstr st' pc pd' c d' :=
    ⟨st, false, pd, true, d, (dispatchInstr_rise st pd d).symm⟩
  cases i with
  | start st => exact ⟨st, true, true, true, false, rfl⟩
  | stop st => exact ⟨st, true, false, true, true, rfl⟩
  | noneClockLow st pd d => exact ⟨st, false, pd, false, d, (dispatchInstr_clockLow st pd d).symm⟩
  | noneHighSteadyLow st => exact ⟨st, true, false, true, false, rfl⟩
  | noneHighSteadyHigh st => exact ⟨st, true, true, true, true, rfl⟩
  | idleFall pd d => exact fall .idle pd d
  | idleRise pd d => exact rise .idle pd d
  | addressingFall pd d => exact fall .addressing pd d
  | addressingRise pd d => exact rise .addressing pd d
  | ackReadAddrFall pd d => exact fall .ackReadAddr pd d
  | ackReadAddrRise pd d => exact rise .ackReadAddr pd d
  | ackReadFall pd d => exact fall .ackRead pd d
  | ackReadRise pd d => exact rise .ackRead pd d
  | ackWriteFall pd d => exact fall .ackWrite pd d
  | ackWriteRise pd d => exact rise .ackWrite pd d
  | nackWriteFall pd d => exact fall .nackWrite pd d
  | nackWriteRise pd d => exact rise .nackWrite pd d
  | readingFall pd d => exact fall .reading pd d
  | readingRise pd d => exact rise .reading pd d
  | writingFall pd d => exact fall .writing pd d
  | writingRise pd d => exact rise .writing pd d
  | waitingFall pd d => exact fall .waiting pd d
  | waitingRise pd d => exact rise .waiting pd d
  | rtcStart | rtcWriteAddress | rtcWriteData | rtcRead | rtcStop | rtcReadAck => cases h
  | memStart | memWrite | memRead | memStop | memReadAck => cases h
  | powerOn | reset | saveRequest | pinChange => cases h

/-- A dispatch code is the state code and the four sample bits that are read from it (30_encoding.md R71). -/
theorem dispatchCode_of_fields {w : Byte} {st : BusState} (h : BusState.ofCode (w.extractLsb' 4 4) = some st) :
    dispatchCode st (w.getLsbD 3) (w.getLsbD 2) (w.getLsbD 1) (w.getLsbD 0) = w := by
  have fields : ∀ w : Byte, w.extractLsb' 4 4 ++ BitVec.ofBool (w.getLsbD 3) ++ BitVec.ofBool (w.getLsbD 2) ++
      BitVec.ofBool (w.getLsbD 1) ++ BitVec.ofBool (w.getLsbD 0) = w := by decide
  rw [dispatchCode, BusState.code_of_ofCode h]
  exact fields w

/-! #### Operands -/

theorem withoutOperand_ok {n : Nat} {i j : Instr} (h : withoutOperand n i = .ok j) : n = 0 ∧ j = i := by
  unfold withoutOperand at h
  split at h
  · next hn => exact ⟨hn, (Except.ok.inj h).symm⟩
  · cases h

theorem withByte_ok {n : Nat} {k : Byte → Instr} {j : Instr} (h : withByte n k = .ok j) :
    ∃ b : Byte, n = b.toNat ∧ j = k b := by
  unfold withByte at h
  split at h
  · next hn => exact ⟨BitVec.ofNat 8 n, (Nat.mod_eq_of_lt hn).symm, (Except.ok.inj h).symm⟩
  · cases h

theorem toNat_testBit_zero : ∀ n < 2, (n.testBit 0).toNat = n := by decide

/-- The operand of PIN_CHANGE is the two levels that are read from it. -/
theorem sampleOperand_of_fields : ∀ n < 4, sampleOperand (n.testBit 1) (n.testBit 0) = n := by decide

theorem withLevel_ok {n : Nat} {k : Level → Instr} {j : Instr} (h : withLevel n k = .ok j) :
    ∃ l : Level, n = l.toNat ∧ j = k l := by
  unfold withLevel at h
  split at h
  · next hn => exact ⟨n.testBit 0, (toNat_testBit_zero n hn).symm, (Except.ok.inj h).symm⟩
  · cases h

theorem addressByte_of_fields : ∀ b : Byte, addressByte (addr7Of b) (dirOf b) = b := by decide

theorem Ack.level_ofLevel (l : Level) : (Ack.ofLevel l).level = l := by cases l <;> rfl

theorem decode_pinChangeWord (c d : Level) : decode (hostWord 3 (sampleOperand c d)) = .ok (.pinChange c d) := by
  cases c <;> cases d <;> rfl

/-! #### The round trips -/

/-- Settles O1: a dispatch row is the row of its fields, and every other word keeps its operand in full. -/
theorem everyInstructionDecodesFromItsWord : Obligations.EveryInstructionDecodesFromItsWord := by
  intro i
  have dispatch (h : (encode i).format = .dispatch) : decode (encode i) = .ok i := by
    obtain ⟨st, pc, pd, c, d, rfl⟩ := exists_dispatchInstr h
    rw [encode_dispatchInstr, decode_dispatchWord]
  cases i with
  | rtcStart a dir =>
    rw [encode, decode_rtcStartWord, withByte_toNat, addr7Of_addressByte, dirOf_addressByte]
  | rtcWriteAddress b => rw [encode, decode_rtcWriteAddressWord, withByte_toNat]
  | rtcWriteData b => rw [encode, decode_rtcWriteDataWord, withByte_toNat]
  | rtcReadAck a => rw [encode, decode_rtcReadAckWord, withLevel_toNat, Ack.ofLevel_level]
  | memStart a dir =>
    rw [encode, decode_memStartWord, withByte_toNat, addr7Of_addressByte, dirOf_addressByte]
  | memWrite b => rw [encode, decode_memWriteWord, withByte_toNat]
  | memReadAck a => rw [encode, decode_memReadAckWord, withLevel_toNat, Ack.ofLevel_level]
  | rtcRead | rtcStop | memRead | memStop | powerOn | reset | saveRequest => rfl
  | pinChange c d => exact decode_pinChangeWord c d
  | _ => exact dispatch rfl

/-- A responder-call code is its three fields (30_encoding.md R80). -/
theorem responderCode_of_fields {w : Byte} {dev ph : Bool} {op : Nat} (hw : w.toNat < 32) (hdev : w.getLsbD 4 = dev)
    (hop : (w.extractLsb' 1 3).toNat = op) (hph : w.getLsbD 0 = ph) :
    w = BitVec.ofNat 8 (16 * dev.toNat + 2 * op + ph.toNat) := by
  have fields : ∀ w : Byte, w.toNat < 32 →
      w = BitVec.ofNat 8 (16 * (w.getLsbD 4).toNat + 2 * (w.extractLsb' 1 3).toNat + (w.getLsbD 0).toNat) := by
    decide
  rw [← hdev, ← hop, ← hph]
  exact fields w hw

/-- A responder-call word that decodes is the encoding of its instruction. -/
theorem encode_of_decodeResponderCall {w : Byte} {n : Nat} {i : Instr} (h : decodeResponderCall w n = .ok i) :
    encode i = responderWord w n := by
  unfold decodeResponderCall at h
  split at h
  · cases h
  · next hwide =>
    have code {dev ph : Bool} {op : Nat} :=
      responderCode_of_fields (w := w) (dev := dev) (ph := ph) (op := op) (Nat.not_le.1 hwide)
    split at h
    case h_1 hdev hop hph | h_7 hdev hop hph =>
      obtain ⟨b, rfl, rfl⟩ := withByte_ok h
      rw [code hdev hop hph, encode, addressByte_of_fields]
      rfl
    case h_2 hdev hop hph | h_3 hdev hop hph | h_8 hdev hop hph =>
      obtain ⟨b, rfl, rfl⟩ := withByte_ok h
      rw [code hdev hop hph]
      rfl
    case h_4 hdev hop hph | h_5 hdev hop hph | h_9 hdev hop hph | h_10 hdev hop hph =>
      obtain ⟨rfl, rfl⟩ := withoutOperand_ok h
      rw [code hdev hop hph]
      rfl
    case h_6 hdev hop hph | h_11 hdev hop hph =>
      obtain ⟨l, rfl, rfl⟩ := withLevel_ok h
      rw [code hdev hop hph, encode, Ack.level_ofLevel]
      rfl
    case h_12 => cases h

/-- A dispatch word that decodes is the encoding of its instruction. -/
theorem encode_of_decodeDispatch {w : Byte} {n : Nat} {i : Instr} (h : decodeDispatch w n = .ok i) :
    encode i = { format := .dispatch, code := w, operand := n } := by
  unfold decodeDispatch at h
  split at h
  · cases h
  · next hst =>
    obtain ⟨rfl, rfl⟩ := withoutOperand_ok h
    rw [encode_dispatchInstr, dispatchWord, dispatchCode_of_fields hst]

/-- A host-op word that decodes is the encoding of its instruction. -/
theorem encode_of_decodeHostOp {w : Byte} {n : Nat} {i : Instr} (h : decodeHostOp w n = .ok i) :
    encode i = hostWord w n := by
  unfold decodeHostOp at h
  split at h
  case h_1 hw =>
    obtain rfl : w = 0 := BitVec.eq_of_toNat_eq hw
    cases h
    rfl
  case h_2 hw =>
    obtain rfl : w = 1 := BitVec.eq_of_toNat_eq hw
    cases h
    rfl
  case h_3 hw =>
    obtain rfl : w = 2 := BitVec.eq_of_toNat_eq hw
    obtain ⟨rfl, rfl⟩ := withoutOperand_ok h
    rfl
  case h_4 hw =>
    obtain rfl : w = 3 := BitVec.eq_of_toNat_eq hw
    split at h
    · next hn =>
      cases h
      rw [encode, sampleOperand_of_fields n hn]
    · cases h
  case h_5 => cases h

/-- Settles O2: each of the three formats gives back the word from the fields it reads. -/
theorem everyDecodedWordIsTheEncoding : Obligations.EveryDecodedWordIsTheEncoding := by
  rintro ⟨format, code, operand⟩ i h
  cases format with
  | dispatch => exact encode_of_decodeDispatch h
  | responderCall => exact encode_of_decodeResponderCall h
  | hostOp => exact encode_of_decodeHostOp h

/-! #### The opcode table -/

/-- The mnemonics of a format's table rows whose match and mask a code falls under. -/
def tableMnemonics (f : Format) (code : Byte) : List String :=
  ((opcodeRows f).filter fun row => code &&& row.2.2 == row.2.1).map Prod.fst

theorem mem_tableMnemonics {f : Format} {code : Byte} {name : String} :
    name ∈ tableMnemonics f code ↔
      ∃ pattern mask : Byte, (name, pattern, mask) ∈ opcodeRows f ∧ code &&& mask = pattern := by
  simp [tableMnemonics]

theorem tableMnemonics_dispatchCode (st : BusState) (pc pd c d : Level) :
    tableMnemonics .dispatch (dispatchCode st pc pd c d) = [(dispatchInstr st pc pd c d).mnemonic] := by
  cases st <;> cases pc <;> cases pd <;> cases c <;> cases d <;> rfl

/-- The table is exact: an instruction's word falls under one row, that of its mnemonic. -/
theorem tableMnemonics_encode (i : Instr) : tableMnemonics (encode i).format (encode i).code = [i.mnemonic] := by
  have dispatch (h : (encode i).format = .dispatch) :
      tableMnemonics (encode i).format (encode i).code = [i.mnemonic] := by
    obtain ⟨st, pc, pd, c, d, rfl⟩ := exists_dispatchInstr h
    rw [encode_dispatchInstr]
    exact tableMnemonics_dispatchCode st pc pd c d
  cases i with
  | rtcStart => exact (by decide : tableMnemonics .responderCall 0b00000 = ["RTC.start"])
  | rtcWriteAddress => exact (by decide : tableMnemonics .responderCall 0b00010 = ["RTC.write_address"])
  | rtcWriteData => exact (by decide : tableMnemonics .responderCall 0b00011 = ["RTC.write_data"])
  | rtcRead => exact (by decide : tableMnemonics .responderCall 0b00100 = ["RTC.read"])
  | rtcStop => exact (by decide : tableMnemonics .responderCall 0b00110 = ["RTC.stop"])
  | rtcReadAck => exact (by decide : tableMnemonics .responderCall 0b01000 = ["RTC.read_ack"])
  | memStart => exact (by decide : tableMnemonics .responderCall 0b10000 = ["MEM.start"])
  | memWrite => exact (by decide : tableMnemonics .responderCall 0b10010 = ["MEM.write"])
  | memRead => exact (by decide : tableMnemonics .responderCall 0b10100 = ["MEM.read"])
  | memStop => exact (by decide : tableMnemonics .responderCall 0b10110 = ["MEM.stop"])
  | memReadAck => exact (by decide : tableMnemonics .responderCall 0b11000 = ["MEM.read_ack"])
  | powerOn => exact (by decide : tableMnemonics .hostOp 0 = ["POWER_ON"])
  | reset => exact (by decide : tableMnemonics .hostOp 1 = ["RESET"])
  | saveRequest => exact (by decide : tableMnemonics .hostOp 2 = ["SAVE_REQUEST"])
  | pinChange => exact (by decide : tableMnemonics .hostOp 3 = ["PIN_CHANGE"])
  | _ => exact dispatch rfl

/-- Settles O3: the word is the instruction's, and the only row it falls under is that of the mnemonic. -/
theorem tableRowsSelectTheirInstruction : Obligations.TableRowsSelectTheirInstruction := by
  intro f name pattern mask hrow code operand i hmatch hdecode
  have hword : encode i = ⟨f, code, operand⟩ := everyDecodedWordIsTheEncoding _ i hdecode
  have honly : tableMnemonics f code = [i.mnemonic] := by
    rw [← tableMnemonics_encode, hword]
  have hmem : name ∈ tableMnemonics f code := mem_tableMnemonics.2 ⟨pattern, mask, hrow, hmatch⟩
  rw [honly, List.mem_singleton] at hmem
  exact hmem.symm

/-- Settles O4: the mnemonic is among those of the rows that the instruction's word falls under. -/
theorem everyInstructionHasItsTableRow : Obligations.EveryInstructionHasItsTableRow := by
  intro i
  apply mem_tableMnemonics.1
  rw [tableMnemonics_encode]
  exact List.mem_singleton_self _

/-! #### Single words -/

/-- Settles O5: each of the eight words decodes by evaluation. -/
theorem wordsOfTheSpecDecode : Obligations.WordsOfTheSpecDecode :=
  ⟨rfl, rfl, rfl, rfl, rfl, rfl, rfl, rfl⟩

/-- The codes 9 to 15 encode no state (30_encoding.md R82(b)). -/
theorem BusState.ofCode_unassigned : ∀ w : Byte, 0x90 ≤ w.toNat → BusState.ofCode (w.extractLsb' 4 4) = none := by
  decide

/-- Settles O6: the state field of such a dispatch word encodes no state, and an op of 5 or more is none of the ops
that the responder-call decoder knows. -/
theorem unassignedWordsAreRejected : Obligations.UnassignedWordsAreRejected := by
  constructor
  · intro code operand hcode
    simp only [decode, decodeDispatch, BusState.ofCode_unassigned code hcode]
  · intro code operand hcode hop
    have op : (code.extractLsb' 1 3).toNat = code.toNat / 2 % 8 := by
      rw [BitVec.extractLsb'_toNat, Nat.shiftRight_eq_div_pow]
    simp only [decode, decodeResponderCall, if_neg (Nat.not_le.2 hcode)]
    split
    case h_12 => rw [if_neg (by omega)]
    all_goals omega

/-- Settles O7: the sixteen samples, evaluated. -/
theorem sampleClassesFollowTheirMasks : Obligations.SampleClassesFollowTheirMasks := by
  intro pc pd c d
  cases pc <;> cases pd <;> cases c <;> cases d <;> decide

end Sys2Proof
end

/-! ### A dispatch row as one operation of its fields (42_bus_detection.md R140 to R147) -/

section

namespace Sys2Proof.Machine

/-- The effect of the row that a state code and two samples select, after the sample update. -/
def dispatchEffect (st : BusState) (pc pd c d : Level) : State → State :=
  match classify pc pd c d with
  | .start => startCondition
  | .stop => stopCondition
  | .none => noEdge
  | .fall => fallHandler st
  | .rise => riseHandler d st

/-- The whole row: the check of R147, the sample update, the effect. -/
def dispatchRun (st : BusState) (pc pd c d : Level) (s : State) : State :=
  if pc ≠ c ∧ needsResponder st = true ∧ s.active = none then raiseFault .noActiveResponder s
  else dispatchEffect st pc pd c d (sample c d s)

theorem needsResponder_iff (st : BusState) : needsResponder st = true ↔ st = .reading ∨ st = .writing := by
  cases st <;> decide

/-- The clock edges are the two classes whose samples differ in the clock (30_encoding.md R72). -/
theorem clock_moves_iff : ∀ pc pd c d : Level,
    pc ≠ c ↔ classify pc pd c d = .fall ∨ classify pc pd c d = .rise := by decide

theorem classify_fall_iff : ∀ pc pd c d : Level, classify pc pd c d = .fall ↔ pc = true ∧ c = false := by decide

theorem classify_rise_iff : ∀ pc pd c d : Level, classify pc pd c d = .rise ↔ pc = false ∧ c = true := by decide

theorem classify_stop_iff : ∀ pc pd c d : Level,
    classify pc pd c d = .stop ↔ pc = true ∧ pd = false ∧ c = true ∧ d = true := by decide

theorem classify_none_clock : ∀ {pc pd c d : Level}, classify pc pd c d = .none → pc = c := by decide

theorem edgeWithResponder_eq (c d : Level) (k : State → State) (s : State) :
    edgeWithResponder c d k s = if s.active = none then raiseFault .noActiveResponder s else k (sample c d s) := by
  cases h : s.active with
  | none => rw [edgeWithResponder_none h, if_pos rfl]
  | some r => rw [edgeWithResponder_some h, if_neg (Option.some_ne_none r)]

theorem whenUnfaulted_congr {k k' : State → State} {s : State} (h : k s = k' s) :
    whenUnfaulted k s = whenUnfaulted k' s := by
  unfold whenUnfaulted
  rw [h]

theorem exec_fallInstr (st : BusState) (pd d : Level) (s : State) :
    exec (fallInstr st pd d) s = whenUnfaulted (dispatchRun st true pd false d) s := by
  cases st with
  | reading | writing =>
    refine whenUnfaulted_congr ((edgeWithResponder_eq _ _ _ _).trans ?_)
    simp [dispatchRun, dispatchEffect, needsResponder, classify, fallHandler]
  | _ => cases pd <;> rfl

theorem exec_riseInstr (st : BusState) (pd d : Level) (s : State) :
    exec (riseInstr st pd d) s = whenUnfaulted (dispatchRun st false pd true d) s := by
  cases st with
  | reading | writing =>
    refine whenUnfaulted_congr ((edgeWithResponder_eq _ _ _ _).trans ?_)
    simp [dispatchRun, dispatchEffect, needsResponder, classify, riseHandler]
  | _ => rfl

/-- Every dispatch row is `dispatchRun` of the fields that select it. -/
theorem exec_dispatchInstr (st : BusState) (s : State) : ∀ pc pd c d : Level,
    exec (dispatchInstr st pc pd c d) s = whenUnfaulted (dispatchRun st pc pd c d) s
  | true, true, true, false => rfl
  | true, false, true, true => rfl
  | true, false, true, false => rfl
  | true, true, true, true => rfl
  | true, pd, false, d => by rw [dispatchInstr_fall, exec_fallInstr]
  | false, pd, true, d => by rw [dispatchInstr_rise, exec_riseInstr]
  | false, pd, false, d => by rw [dispatchInstr_clockLow]; rfl

/-- A pin change is `dispatchRun` of the state's own fields and the new sample. -/
theorem onPinChange_eq (c d : Level) (s : State) :
    onPinChange c d s = dispatchRun s.busState s.prevClock s.prevData c d s := by
  have hedge := clock_moves_iff s.prevClock s.prevData c d
  unfold onPinChange dispatchRun dispatchEffect
  cases hclass : classify s.prevClock s.prevData c d with
  | start | stop | none => simp [hedge, hclass]
  | fall | rise => simp [hedge, hclass, clockEdge, lacksResponder]

/-- All a dispatch row can do when it answers a next state. -/
theorem exec_dispatch_cases {i : Instr} {s t : State} (hformat : (encode i).format = .dispatch)
    (h : exec i s = .next t) :
    ∃ st pc pd c d, i = dispatchInstr st pc pd c d ∧
      (t = raiseFault .noActiveResponder s ∨ t = dispatchEffect st pc pd c d (sample c d s)) := by
  obtain ⟨st, pc, pd, c, d, rfl⟩ := exists_dispatchInstr hformat
  rw [exec_dispatchInstr] at h
  obtain ⟨-, rfl⟩ := whenUnfaulted_cases h
  refine ⟨st, pc, pd, c, d, rfl, ?_⟩
  unfold dispatchRun
  split
  · exact .inl rfl
  · exact .inr rfl

/-! #### The fields a word carries -/

theorem carriedFields_dispatchInstr (st : BusState) (s : State) : ∀ pc pd c d : Level,
    carriedFields (dispatchInstr st pc pd c d) s = { s with busState := st, prevClock := pc, prevData := pd }
  | true, true, true, false => rfl
  | true, false, true, true => rfl
  | true, false, true, false => rfl
  | true, true, true, true => rfl
  | true, pd, false, d => by rw [dispatchInstr_fall]; cases st <;> rfl
  | false, pd, true, d => by rw [dispatchInstr_rise]; cases st <;> rfl
  | false, pd, false, d => by rw [dispatchInstr_clockLow]; rfl

/-- A dispatch row describes the states with its three fields of the state before. -/
theorem describes_dispatchInstr (st : BusState) (pc pd c d : Level) (s : State) :
    describes (dispatchInstr st pc pd c d) s = true ↔ s.busState = st ∧ s.prevClock = pc ∧ s.prevData = pd := by
  simp only [describes, carriedFields_dispatchInstr, Bool.and_eq_true, beq_iff_eq, and_assoc, and_true]
  simp only [eq_comm]

/-- Settles O8: the row is that of the state's own fields, and both sides are `dispatchRun` of them. -/
theorem pinChangeIsTheEventOfItsDispatchWord : Obligations.PinChangeIsTheEventOfItsDispatchWord := by
  intro s c d
  refine ⟨dispatchInstr s.busState s.prevClock s.prevData c d, decode_dispatchWord .., ?_, ?_⟩
  · exact (describes_dispatchInstr ..).2 ⟨rfl, rfl, rfl⟩
  · rw [exec_dispatchInstr]
    exact whenUnfaulted_congr (onPinChange_eq c d s)

/-- Settles O39: the check of R147 comes before everything else of the edge. -/
theorem missingResponderRaisesTheFault : Obligations.MissingResponderRaisesTheFault := by
  constructor
  · intro i pd d s hi hfault hnone
    simp only [List.mem_cons, List.not_mem_nil, or_false] at hi
    obtain rfl | rfl | rfl | rfl := hi <;> exact responderEdge_raises hfault hnone _ d _
  · intro c d s hst hedge hfault hnone
    refine (whenUnfaulted_next hfault (onPinChange c d)).trans (congrArg Host.Outcome.next ?_)
    rw [onPinChange_eq, dispatchRun, if_pos ⟨hedge.symm, (needsResponder_iff _).2 hst, hnone⟩]
    rfl

end Sys2Proof.Machine
end

/-! ### The step and its pending calls -/

section

namespace Sys2Proof.Machine

/-- Every instruction but POWER_ON is an effect of the unfaulted block (60_exceptions.md R210). -/
theorem exists_effect_of_exec {i : Instr} (h : ∀ mask, i ≠ .powerOn mask) :
    ∃ k : State → State, ∀ s, exec i s = whenUnfaulted k s := by
  cases i with
  | powerOn mask => exact absurd rfl (h mask)
  | _ => exact ⟨_, fun _ => rfl⟩

/-- Settles O40: every instruction but POWER_ON is an effect of the unfaulted block. -/
theorem faultedBlockTakesNoStep : Obligations.FaultedBlockTakesNoStep := by
  intro i r s hfault hi
  obtain ⟨k, hk⟩ := exists_effect_of_exec hi
  rw [hk, whenUnfaulted_fault hfault]

/-- An unfaulted block completes every instruction. -/
theorem exists_exec_next {s : State} (h : s.fault = none) (i : Instr) : ∃ t, exec i s = .next t := by
  by_cases hi : ∃ mask, i = .powerOn mask
  · obtain ⟨mask, rfl⟩ := hi
    exact ⟨_, rfl⟩
  · obtain ⟨k, hk⟩ := exists_effect_of_exec fun mask h => hi ⟨mask, h⟩
    exact ⟨k s, (hk s).trans (whenUnfaulted_next h k)⟩

theorem step_eq_of_decode {s : State} {w : EventWord} {rest : List EventWord} {i : Instr} (hcalls : s.calls = w :: rest)
    (hdecode : decode w = .ok i) :
    step s = if describes i { s with calls := rest } then exec i { s with calls := rest } else .refused .staleWord := by
  simp only [step, nextCall, hcalls, hdecode]

theorem step_of_undecodable {s : State} {w : EventWord} {rest : List EventWord} {e : DecodeError}
    (hcalls : s.calls = w :: rest) (hdecode : decode w = .error e) : step s = .refused (.undecodable e) := by
  simp only [step, nextCall, hcalls, hdecode]

/-- A host-op word carries no field of the state, so it describes every state. -/
theorem describes_hostOp {i : Instr} (h : (encode i).format = .hostOp) (s : State) : describes i s = true := by
  cases i with
  | powerOn | reset | saveRequest | pinChange => simp [describes, carriedFields]
  | _ => cases h

/-- An instruction describes the state with the fields of its own word. -/
theorem describes_carriedFields (i : Instr) (s : State) (calls : List EventWord) :
    describes i { carriedFields i s with calls := calls } = true := by
  cases i <;> simp [describes, carriedFields]

/-- Settles O9: the word is the encoding of its instruction, so a host-op word is one of the four host-ops. -/
theorem stepRunsThePendingCall : Obligations.StepRunsThePendingCall := by
  intro s w rest i hcalls hdecode huse
  have hdescribes : describes i { s with calls := rest } = true := by
    obtain hdescribes | hhost := huse
    · exact hdescribes
    · rw [← everyDecodedWordIsTheEncoding w i hdecode] at hhost
      exact describes_hostOp hhost _
  rw [step_eq_of_decode hcalls hdecode, if_pos hdescribes]

theorem decode_of_decoded {w : EventWord} {i : Instr} (h : decoded w = some i) : decode w = .ok i := by
  unfold decoded at h
  split at h
  · next hw => rw [hw, Option.some.inj h]
  · cases h

/-- Settles O10: the placed word is the one call, and its instruction describes the state it is placed in. -/
theorem placedTableWordRunsNext : Obligations.PlacedTableWordRunsNext := by
  intro s nbits w i hw
  have hdecode : decode (tableEventWord nbits w) = .ok i := decode_of_decoded hw
  have hplace : s.withFetchWord nbits w = { carriedFields i s with calls := [tableEventWord nbits w] } := by
    simp only [State.withFetchWord, place, hdecode]
  rw [hplace, step_eq_of_decode rfl hdecode]
  exact if_pos (describes_carriedFields i s [])

/-- Settles O11: `step_idle` is that statement. -/
theorem stepWithoutCallsHoldsTheState : Obligations.StepWithoutCallsHoldsTheState :=
  fun _ hcalls => step_idle hcalls

/-- Settles O12: the two ways the step refuses the word it takes. -/
theorem unusableWordsAreRefused : Obligations.UnusableWordsAreRefused := by
  constructor
  · intro s w rest e hcalls hdecode
    exact step_of_undecodable hcalls hdecode
  · intro s w rest i hcalls hdecode hstale
    rw [step_eq_of_decode hcalls hdecode, if_neg (by simp [hstale])]

end Sys2Proof.Machine
end

/-! ### All that a responder call and the effect of a pin change can do -/

section

namespace Sys2Proof.Machine

/-! #### Responder calls -/

/-- The part of the invariant that is about the responders' own registers and the store. -/
def RespondersInv (s : State) : Prop := s.rtcReg.toNat ≤ 0xFF ∧ s.memReg.toNat ≤ 0x7F ∧ s.store.wf = true

/-- All a responder call can do, seen from the bus: the bus registers, the lines, the registry, the fault and the
pending calls stay, and the responders keep their invariant. -/
structure CallResult (s t : State) : Prop where
  busState : t.busState = s.busState
  active : t.active = s.active
  bitCount : t.bitCount = s.bitCount
  prevClock : t.prevClock = s.prevClock
  prevData : t.prevData = s.prevData
  sclOut : t.sclOut = s.sclOut
  sdaOut : t.sdaOut = s.sdaOut
  rtcEnabled : t.rtcEnabled = s.rtcEnabled
  memEnabled : t.memEnabled = s.memEnabled
  fault : t.fault = s.fault
  calls : t.calls = s.calls
  responders : RespondersInv s → RespondersInv t

theorem CallResult.of_update {s : State} {reg : BitVec 16} {phase : RtcPhase} {memReg : BitVec 8} {store : Memory}
    {trace : List Event} {draws : Nat}
    (h : RespondersInv s → reg.toNat ≤ 0xFF ∧ memReg.toNat ≤ 0x7F ∧ store.wf = true) :
    CallResult s { s with
      rtcReg := reg, rtcPhase := phase, memReg := memReg, store := store, trace := trace, draws := draws } :=
  ⟨rfl, rfl, rfl, rfl, rfl, rfl, rfl, rfl, rfl, rfl, rfl, h⟩

/-- A call that only emits, or sets the phase. -/
theorem CallResult.of_trace (s : State) (phase : RtcPhase) (trace : List Event) :
    CallResult s { s with rtcPhase := phase, trace := trace } :=
  .of_update id

theorem CallResult.of_whenUnfaulted {s t : State} {k : State → State} (hk : CallResult s (k s))
    (h : whenUnfaulted k s = .next t) : CallResult s t :=
  (whenUnfaulted_cases h).2 ▸ hk

theorem rtcWriteAddress_result (b : Byte) (s : State) : CallResult s (rtcWriteAddress b s).1 :=
  .of_update fun ⟨_, hmem, hwf⟩ => ⟨rtcRegOf_le b, hmem, hwf⟩

theorem rtcWriteData_result (b : Byte) (s : State) : CallResult s (rtcWriteData b s).1 := by
  obtain ⟨events, h⟩ := rtcWriteData_frame b s
  rw [h]
  exact .of_update fun ⟨_, hmem, hwf⟩ => ⟨advanced_rtcReg_le _, hmem, Memory.wf_write hwf (BitVec.isLt _) b⟩

theorem rtcRead_result (s : State) : CallResult s (rtcRead s).1 := by
  obtain ⟨m, n, h⟩ := refreshTime_frame s
  have hread : (rtcRead s).1 = emit (.read .rtc (rtcRead s).2) (advanceRtcReg (refreshTime s)) := rfl
  have hstore : (refreshTime s).store = m := by rw [h]
  rw [hread, h]
  exact .of_update fun ⟨_, hmem, hwf⟩ => ⟨advanced_rtcReg_le _, hmem, hstore ▸ wf_refreshTime hwf⟩

theorem memWrite_result (b : Byte) (s : State) : CallResult s (memWrite b s).1 :=
  .of_update fun ⟨hreg, _, hwf⟩ => ⟨hreg, memRegOf_le b, hwf⟩

theorem memRead_result (s : State) : CallResult s (memRead s).1 :=
  .of_update fun ⟨hreg, _, hwf⟩ => ⟨hreg, advanced_memReg_le _, hwf⟩

theorem callStart_result (r : Responder) (a : BitVec 7) (dir : Direction) (s : State) :
    CallResult s (callStart r a dir s).1 := by
  cases r <;> exact .of_trace ..

theorem callWrite_result (r : Responder) (b : Byte) (s : State) : CallResult s (callWrite r b s).1 := by
  cases r with
  | mem => exact memWrite_result b s
  | rtc =>
    simp only [callWrite, rtcWrite]
    split
    · exact rtcWriteAddress_result b s
    · exact rtcWriteData_result b s

theorem callRead_result (r : Responder) (s : State) : CallResult s (callRead r s).1 := by
  cases r with
  | mem => exact memRead_result s
  | rtc => exact rtcRead_result s

theorem callStop_result (r : Responder) (s : State) : CallResult s (callStop r s) := by
  cases r <;> exact .of_trace ..

theorem callStart_store (r : Responder) (a : BitVec 7) (dir : Direction) (s : State) :
    (callStart r a dir s).1.store = s.store := by
  cases r <;> rfl

theorem callStop_store (r : Responder) (s : State) : (callStop r s).store = s.store := by
  cases r <;> rfl

/-- Only the RTC's `write` reaches the store (20_memory.md R50). -/
theorem callWrite_store (r : Responder) (b : Byte) (s : State) : (callWrite r b s).1.store = s.store ∨ r = .rtc := by
  cases r
  · exact .inr rfl
  · exact .inl rfl

/-- Only the RTC's `read` reaches the store (20_memory.md R50). -/
theorem callRead_store (r : Responder) (s : State) : (callRead r s).1.store = s.store ∨ r = .rtc := by
  cases r
  · exact .inr rfl
  · exact .inl rfl

/-- A responder-call row is a responder call, in every state. -/
theorem exec_responderCall_result {i : Instr} {s t : State} (hformat : (encode i).format = .responderCall)
    (h : exec i s = .next t) : CallResult s t := by
  unfold exec at h
  cases i with
  | rtcStart a dir => exact .of_whenUnfaulted (callStart_result .rtc a dir s) h
  | rtcWriteAddress b => exact .of_whenUnfaulted (rtcWriteAddress_result b s) h
  | rtcWriteData b => exact .of_whenUnfaulted (rtcWriteData_result b s) h
  | rtcRead => exact .of_whenUnfaulted (rtcRead_result s) h
  | rtcStop => exact .of_whenUnfaulted (callStop_result .rtc s) h
  | rtcReadAck => exact .of_whenUnfaulted (.of_trace s s.rtcPhase s.trace) h
  | memStart a dir => exact .of_whenUnfaulted (callStart_result .mem a dir s) h
  | memWrite b => exact .of_whenUnfaulted (memWrite_result b s) h
  | memRead => exact .of_whenUnfaulted (memRead_result s) h
  | memStop => exact .of_whenUnfaulted (callStop_result .mem s) h
  | memReadAck => exact .of_whenUnfaulted (.of_trace s s.rtcPhase s.trace) h
  | _ => cases hformat

/-! #### The handlers with more than one outcome, case by case -/

theorem bitCount_succ_eq_eight : ∀ n : BitVec 4, n + 1 = 8 ↔ n = 7 := by decide

/-- R163 within the address byte. -/
theorem addressingRise_within {s : State} (h : s.bitCount ≠ 7) (d : Level) : addressingRise d s = shiftBit d s :=
  if_neg (mt (bitCount_succ_eq_eight _).1 h)

/-- R163 at the eighth bit. -/
theorem addressingRise_last {s : State} (h : s.bitCount = 7) (d : Level) :
    addressingRise d s = recogniseAddress (shiftBit d s) :=
  if_pos ((bitCount_succ_eq_eight _).2 h)

/-- R175 within the data byte. -/
theorem writingRise_within {s : State} (h : s.bitCount ≠ 7) (d : Level) : writingRise d s = shiftBit d s :=
  if_neg (mt (bitCount_succ_eq_eight _).1 h)

/-- R175 at the eighth bit. -/
theorem writingRise_last {s : State} (h : s.bitCount = 7) (d : Level) :
    writingRise d s = deliverByte (shiftBit d s) :=
  if_pos ((bitCount_succ_eq_eight _).2 h)

theorem deliverByte_of_inactive {s : State} (h : s.active = none) : deliverByte s = s := by
  rw [deliverByte, h]

/-- The delivered byte is acknowledged, so the state is AckWrite (43_bus_states.md R175, R179). -/
theorem deliverByte_of_active {s : State} {r : Responder} (h : s.active = some r) :
    deliverByte s = { (callWrite r s.srIn s).1 with busState := .ackWrite } := by
  simp only [deliverByte, h, callWrite_acks, afterWrite]

theorem refill_of_inactive {s : State} (h : s.active = none) : refill s = s := by
  rw [refill, h]

theorem refill_of_active {s : State} {r : Responder} (h : s.active = some r) :
    refill s = { (callRead r s).1 with srOut := (callRead r s).2 } := by
  rw [refill, h]

theorem refill_keeps (s : State) :
    (refill s).busState = s.busState ∧ (refill s).active = s.active ∧ (refill s).bitCount = s.bitCount := by
  cases h : s.active with
  | none =>
    rw [refill_of_inactive h]
    exact ⟨rfl, h, rfl⟩
  | some r =>
    have result := callRead_result r s
    rw [refill_of_active h]
    exact ⟨result.busState, result.active.trans h, result.bitCount⟩

/-- R172 after the last bit. -/
theorem readingFall_of_zero {s : State} (h : s.bitCount = 0) : readingFall s = s := by
  simp [readingFall, h]

/-- R172 within the byte. -/
theorem readingFall_within {s : State} (h0 : s.bitCount ≠ 0) (h8 : s.bitCount ≠ 8) :
    readingFall s = driveNextBit s := by
  unfold readingFall
  rw [if_neg h8]
  exact if_neg h0

/-- R172 at the first bit: the refill comes first. -/
theorem readingFall_of_eight {s : State} (h : s.bitCount = 8) : readingFall s = driveNextBit (refill s) := by
  simp [readingFall, (refill_keeps s).2.2, h]

theorem ackReadRise_nack (s : State) : ackReadRise true s = { s with busState := .waiting } := by
  simp [ackReadRise, Ack.ofLevel]

theorem ackReadRise_ack (s : State) : ackReadRise false s = beginReadByte s := by
  simp [ackReadRise, Ack.ofLevel]

/-! #### Effects: at most one responder call, between updates of the bus registers -/

/-- `t` is `s` up to the registers of the bus state machine. -/
def BusUpdate (s t : State) : Prop :=
  t = { s with
    busState := t.busState, active := t.active, srIn := t.srIn, srOut := t.srOut, bitCount := t.bitCount
    touched := t.touched }

theorem BusUpdate.refl (s : State) : BusUpdate s s := rfl

theorem BusUpdate.trans {s u t : State} (h : BusUpdate s u) (h' : BusUpdate u t) : BusUpdate s t := by
  rw [h', h]
  rfl

/-- `t` is `s` up to the levels the block drives. -/
def LineUpdate (s t : State) : Prop := t = { s with sclOut := t.sclOut, sdaOut := t.sdaOut }

/-- What an effect that leaves the lines alone can do to the state after the sample. -/
inductive Effect (s : State) : State → Prop where
  | quiet {t : State} (update : BusUpdate s t) : Effect s t
  | call {u v t : State} (before : BusUpdate s u) (call : CallResult u v)
      (store : v.store = u.store ∨ s.active = some .rtc) (after : BusUpdate v t) : Effect s t

theorem Effect.update {s u t : State} (h : Effect s u) (h' : BusUpdate u t) : Effect s t := by
  cases h with
  | quiet update => exact .quiet (update.trans h')
  | call before call store after => exact .call before call store (after.trans h')

theorem recogniseAddress_effect {s u : State} (h : BusUpdate s u) : Effect s (recogniseAddress u) := by
  obtain ⟨-, hidle⟩ | ⟨r, -, hcalled⟩ := recogniseAddress_cases u
  · rw [hidle, h]
    exact .quiet rfl
  · rw [hcalled]
    exact .call h (callStart_result r ..) (.inl (callStart_store r ..)) rfl

theorem deliverByte_effect {s u : State} (h : BusUpdate s u) (hactive : u.active = s.active) :
    Effect s (deliverByte u) := by
  cases hr : u.active with
  | none =>
    rw [deliverByte_of_inactive hr]
    exact .quiet h
  | some r =>
    rw [deliverByte_of_active hr]
    refine .call h (callWrite_result r u.srIn u) ?_ rfl
    exact (callWrite_store r u.srIn u).imp_right fun hrtc => by rw [← hactive, hr, hrtc]

theorem refill_effect (s : State) : Effect s (refill s) := by
  cases hr : s.active with
  | none =>
    rw [refill_of_inactive hr]
    exact .quiet rfl
  | some r =>
    rw [refill_of_active hr]
    refine .call (.refl s) (callRead_result r s) ?_ rfl
    exact (callRead_store r s).imp_right fun hrtc => by rw [hr, hrtc]

theorem stopCondition_effect (s : State) : Effect s (stopCondition s) := by
  cases hr : s.active with
  | none =>
    rw [stopCondition_of_inactive hr]
    exact .quiet rfl
  | some r =>
    rw [stopCondition_of_active hr]
    exact .call (.refl s) (callStop_result r s) (.inl (callStop_store r s)) rfl

/-- No rising edge touches the lines. -/
theorem riseHandler_effect (d : Level) (st : BusState) (s : State) : Effect s (riseHandler d st s) := by
  cases st with
  | addressing =>
    by_cases hlast : s.bitCount = 7
    · rw [riseHandler, addressingRise_last hlast]
      exact recogniseAddress_effect rfl
    · rw [riseHandler, addressingRise_within hlast]
      exact .quiet rfl
  | writing =>
    by_cases hlast : s.bitCount = 7
    · rw [riseHandler, writingRise_last hlast]
      exact deliverByte_effect rfl rfl
    · rw [riseHandler, writingRise_within hlast]
      exact .quiet rfl
  | reading =>
    by_cases hzero : s.bitCount = 0
    · rw [riseHandler, readingRise_of_zero hzero]
      exact .quiet rfl
    · rw [riseHandler, readingRise_of_nonzero hzero]
      exact .quiet rfl
  | ackRead =>
    cases d with
    | false => rw [riseHandler, ackReadRise_ack]; exact .quiet rfl
    | true => rw [riseHandler, ackReadRise_nack]; exact .quiet rfl
  | _ => exact .quiet rfl

/-- A falling edge is such an effect up to the lines. -/
theorem fallHandler_effect (st : BusState) (s : State) : ∃ u, Effect s u ∧ LineUpdate u (fallHandler st s) := by
  cases st with
  | reading =>
    by_cases hzero : s.bitCount = 0
    · rw [fallHandler, readingFall_of_zero hzero]
      exact ⟨s, .quiet rfl, rfl⟩
    · by_cases height : s.bitCount = 8
      · rw [fallHandler, readingFall_of_eight height]
        exact ⟨{ refill s with bitCount := (refill s).bitCount - 1 }, (refill_effect s).update rfl, rfl⟩
      · rw [fallHandler, readingFall_within hzero height]
        exact ⟨{ s with bitCount := s.bitCount - 1 }, .quiet rfl, rfl⟩
  | _ => exact ⟨s, .quiet rfl, rfl⟩

/-- A pin change's effect is such an effect up to the lines, and it leaves the lines alone when it is no falling
edge. -/
theorem dispatchEffect_effect (st : BusState) (pc pd c d : Level) (s : State) :
    ∃ u, Effect s u ∧ LineUpdate u (dispatchEffect st pc pd c d s) ∧
      (classify pc pd c d ≠ .fall → dispatchEffect st pc pd c d s = u) := by
  unfold dispatchEffect
  cases classify pc pd c d with
  | start => exact ⟨startCondition s, .quiet rfl, rfl, fun _ => rfl⟩
  | none => exact ⟨s, .quiet rfl, rfl, fun _ => rfl⟩
  | stop => exact ⟨_, stopCondition_effect s, rfl, fun _ => rfl⟩
  | rise => exact ⟨_, riseHandler_effect d st s, rfl, fun _ => rfl⟩
  | fall =>
    obtain ⟨u, heffect, hlines⟩ := fallHandler_effect st s
    exact ⟨u, heffect, hlines, fun h => absurd rfl h⟩

/-! #### What follows for every effect -/

/-- What every effect keeps: the sample taken, the registry, the fault, the pending calls, and the responders'
invariant. -/
structure EffectFrame (s t : State) : Prop where
  prevClock : t.prevClock = s.prevClock
  prevData : t.prevData = s.prevData
  rtcEnabled : t.rtcEnabled = s.rtcEnabled
  memEnabled : t.memEnabled = s.memEnabled
  fault : t.fault = s.fault
  calls : t.calls = s.calls
  responders : RespondersInv s → RespondersInv t

theorem EffectFrame.trans {s u t : State} (h : EffectFrame s u) (h' : EffectFrame u t) : EffectFrame s t :=
  ⟨h'.prevClock.trans h.prevClock, h'.prevData.trans h.prevData, h'.rtcEnabled.trans h.rtcEnabled,
    h'.memEnabled.trans h.memEnabled, h'.fault.trans h.fault, h'.calls.trans h.calls, h'.responders ∘ h.responders⟩

theorem BusUpdate.frame {s t : State} (h : BusUpdate s t) : EffectFrame s t := by
  rw [h]
  exact ⟨rfl, rfl, rfl, rfl, rfl, rfl, id⟩

theorem BusUpdate.store {s t : State} (h : BusUpdate s t) : t.store = s.store := by rw [h]

theorem BusUpdate.sclOut {s t : State} (h : BusUpdate s t) : t.sclOut = s.sclOut := by rw [h]

theorem BusUpdate.sdaOut {s t : State} (h : BusUpdate s t) : t.sdaOut = s.sdaOut := by rw [h]

theorem LineUpdate.frame {s t : State} (h : LineUpdate s t) : EffectFrame s t := by
  rw [h]
  exact ⟨rfl, rfl, rfl, rfl, rfl, rfl, id⟩

theorem CallResult.frame {s t : State} (h : CallResult s t) : EffectFrame s t :=
  ⟨h.prevClock, h.prevData, h.rtcEnabled, h.memEnabled, h.fault, h.calls, h.responders⟩

theorem Effect.frame {s t : State} (h : Effect s t) : EffectFrame s t := by
  cases h with
  | quiet update => exact update.frame
  | call before call store after => exact before.frame.trans (call.frame.trans after.frame)

/-- Without an active RTC an effect leaves the store alone (20_memory.md R50). -/
theorem Effect.store {s t : State} (h : Effect s t) (hrtc : s.active ≠ some .rtc) : t.store = s.store := by
  cases h with
  | quiet update => exact update.store
  | call before call store after =>
    exact after.store.trans ((store.resolve_right hrtc).trans before.store)

theorem Effect.lines {s t : State} (h : Effect s t) : t.sclOut = s.sclOut ∧ t.sdaOut = s.sdaOut := by
  cases h with
  | quiet update => exact ⟨update.sclOut, update.sdaOut⟩
  | call before call store after =>
    exact ⟨after.sclOut.trans (call.sclOut.trans before.sclOut),
      after.sdaOut.trans (call.sdaOut.trans before.sdaOut)⟩

section

variable (st : BusState) (pc pd c d : Level) (s : State)

theorem dispatchEffect_frame : EffectFrame s (dispatchEffect st pc pd c d s) := by
  obtain ⟨u, heffect, hlines, -⟩ := dispatchEffect_effect st pc pd c d s
  exact heffect.frame.trans hlines.frame

theorem dispatchEffect_store (h : s.active ≠ some .rtc) : (dispatchEffect st pc pd c d s).store = s.store := by
  obtain ⟨u, heffect, hlines, -⟩ := dispatchEffect_effect st pc pd c d s
  exact (congrArg State.store hlines).trans (heffect.store h)

/-- 70_reset_and_hazards.md R247. -/
theorem dispatchEffect_lines (h : classify pc pd c d ≠ .fall) :
    (dispatchEffect st pc pd c d s).sclOut = s.sclOut ∧ (dispatchEffect st pc pd c d s).sdaOut = s.sdaOut := by
  obtain ⟨u, heffect, -, hu⟩ := dispatchEffect_effect st pc pd c d s
  rw [hu h]
  exact heffect.lines

theorem readingFall_sclOut : (readingFall s).sclOut = s.sclOut := by
  by_cases hzero : s.bitCount = 0
  · rw [readingFall_of_zero hzero]
  · by_cases height : s.bitCount = 8
    · rw [readingFall_of_eight height, driveNextBit_sclOut]
      exact (refill_effect s).lines.1
    · rw [readingFall_within hzero height, driveNextBit_sclOut]

/-- A falling edge releases the clock line or leaves it (10_state.md R29). -/
theorem fallHandler_sclOut (h : s.sclOut = true) : (fallHandler st s).sclOut = true := by
  cases st with
  | idle | addressing | ackRead | writing => rfl
  | reading => exact (readingFall_sclOut s).trans h
  | ackReadAddr | ackWrite | nackWrite | waiting => exact h

/-- No effect drives the clock line low (10_state.md R29). -/
theorem dispatchEffect_sclOut (h : s.sclOut = true) : (dispatchEffect st pc pd c d s).sclOut = true := by
  by_cases hfall : classify pc pd c d = .fall
  · simp only [dispatchEffect, hfall]
    exact fallHandler_sclOut st s h
  · exact (dispatchEffect_lines st pc pd c d s hfall).1.trans h

/-- All a dispatch row can do: raise the fault of R147, or take the sample and run its effect. -/
theorem dispatchRun_cases :
    (pc ≠ c ∧ needsResponder st = true ∧ s.active = none ∧
      dispatchRun st pc pd c d s = raiseFault .noActiveResponder s) ∨
    (¬(pc ≠ c ∧ needsResponder st = true ∧ s.active = none) ∧
      dispatchRun st pc pd c d s = dispatchEffect st pc pd c d (sample c d s)) := by
  unfold dispatchRun
  split
  · next h => exact .inl ⟨h.1, h.2.1, h.2.2, rfl⟩
  · next h => exact .inr ⟨h, rfl⟩

end

/-! #### All an instruction can do -/

/-- All an instruction can do when it answers a next state: a machine reset, a responder call (a save request is
seen from the bus as one), or a row of the dispatch format, whose fields are those of the state when the
instruction describes it. -/
theorem exec_cases {i : Instr} {s t : State} (h : exec i s = .next t) :
    (∃ mask u, (i = .powerOn mask ∨ i = .reset mask) ∧ u.fault = none ∧ t = machineReset mask u) ∨
    CallResult s t ∨
    ∃ st pc pd c d, (describes i s = true → s.busState = st ∧ s.prevClock = pc ∧ s.prevData = pd) ∧
      t = dispatchRun st pc pd c d s := by
  have hdispatch (hformat : (encode i).format = .dispatch) :
      ∃ st pc pd c d, (describes i s = true → s.busState = st ∧ s.prevClock = pc ∧ s.prevData = pd) ∧
        t = dispatchRun st pc pd c d s := by
    obtain ⟨st, pc, pd, c, d, rfl⟩ := exists_dispatchInstr hformat
    rw [exec_dispatchInstr] at h
    exact ⟨st, pc, pd, c, d, (describes_dispatchInstr ..).1, (whenUnfaulted_cases h).2⟩
  cases hformat : (encode i).format with
  | dispatch => exact .inr (.inr (hdispatch hformat))
  | responderCall => exact .inr (.inl (exec_responderCall_result hformat h))
  | hostOp =>
    unfold exec at h
    cases i with
    | powerOn mask => exact .inl ⟨mask, powerOnLoad s, .inl rfl, rfl, (Host.Outcome.next.inj h).symm⟩
    | reset mask =>
      obtain ⟨hfault, ht⟩ := whenUnfaulted_cases h
      exact .inl ⟨mask, s, .inr rfl, hfault, ht⟩
    | saveRequest => exact .inr (.inl (.of_whenUnfaulted (.of_trace s s.rtcPhase _) h))
    | pinChange c d =>
      obtain ⟨-, ht⟩ := whenUnfaulted_cases h
      exact .inr (.inr ⟨_, _, _, c, d, fun _ => ⟨rfl, rfl, rfl⟩, ht.trans (onPinChange_eq c d s)⟩)
    | _ => cases hformat

end Sys2Proof.Machine
end

/-! ### Rules of every step and of every pin change -/

section

namespace Sys2Proof.Machine

/-- A pin change that answers a next state is `dispatchRun` of the state's own fields. -/
theorem exec_pinChange_cases {c d : Level} {s t : State} (h : exec (.pinChange c d) s = .next t) :
    t = dispatchRun s.busState s.prevClock s.prevData c d s := by
  obtain ⟨-, ht⟩ := whenUnfaulted_cases (k := onPinChange c d) h
  exact ht.trans (onPinChange_eq c d s)

/-- A pin change of an unfaulted block completes. -/
theorem exec_pinChange_next {s : State} (h : s.fault = none) (c d : Level) :
    exec (.pinChange c d) s = .next (dispatchRun s.busState s.prevClock s.prevData c d s) := by
  rw [← onPinChange_eq]
  exact whenUnfaulted_next h (onPinChange c d)

/-- Settles O13: the premise excludes the fault, and the effect keeps the sample and the rest. -/
theorem pinChangeCompletes : Obligations.PinChangeCompletes := by
  intro c d s hfault hresponder
  have frame := dispatchEffect_frame s.busState s.prevClock s.prevData c d (sample c d s)
  have hrun : dispatchRun s.busState s.prevClock s.prevData c d s =
      dispatchEffect s.busState s.prevClock s.prevData c d (sample c d s) :=
    if_neg fun ⟨hedge, hneeds, hnone⟩ => hresponder hedge.symm ((needsResponder_iff _).1 hneeds) hnone
  exact ⟨_, hrun ▸ exec_pinChange_next hfault c d, frame.fault.trans hfault, frame.prevClock, frame.prevData,
    frame.rtcEnabled, frame.memEnabled, frame.calls⟩

/-- Settles O14: the row's effect keeps the sample it took, which is that of its word's two low bits. -/
theorem dispatchRowsTakeTheirSample : Obligations.DispatchRowsTakeTheirSample := by
  intro i s t hformat hrun hfault
  obtain ⟨st, pc, pd, c, d, rfl, rfl | rfl⟩ := exec_dispatch_cases hformat hrun
  · rw [raiseFault_fault] at hfault
    cases hfault
  · have frame := dispatchEffect_frame st pc pd c d (sample c d s)
    obtain ⟨-, -, hc, hd⟩ := dispatchCode_sample st pc pd c d
    rw [encode_dispatchInstr]
    exact ⟨frame.prevClock.trans hc.symm, frame.prevData.trans hd.symm⟩

/-- Settles O18: a reset releases the line, a responder call leaves it, and so does a row up to a release. -/
theorem clockLineIsNeverDrivenLow : Obligations.ClockLineIsNeverDrivenLow := by
  intro s t hscl hstep
  obtain ⟨-, rfl⟩ | ⟨w, rest, i, -, -, -, hrun⟩ := step_cases hstep
  · exact hscl
  · obtain ⟨mask, u, -, -, rfl⟩ | hcall | ⟨st, pc, pd, c, d, -, rfl⟩ := exec_cases hrun
    · rfl
    · exact hcall.sclOut.trans hscl
    · obtain ⟨-, -, -, hraise⟩ | ⟨-, heffect⟩ := dispatchRun_cases st pc pd c d { s with calls := rest }
      · rw [hraise]
        exact hscl
      · rw [heffect]
        exact dispatchEffect_sclOut st pc pd c d _ hscl

/-- Settles O19: raising the fault leaves the lines, and only the effect of a falling edge touches them. -/
theorem outputsChangeOnlyOnFallingEdges : Obligations.OutputsChangeOnlyOnFallingEdges := by
  intro c d s t hrun hedge
  obtain rfl := exec_pinChange_cases hrun
  obtain ⟨-, -, -, hraise⟩ | ⟨-, heffect⟩ := dispatchRun_cases s.busState s.prevClock s.prevData c d s
  · rw [hraise]
    exact ⟨rfl, rfl⟩
  · rw [heffect]
    exact dispatchEffect_lines _ _ _ c d (sample c d s) (mt (classify_fall_iff ..).1 hedge)

/-- Settles O20: neither a responder call nor a row touches the registry. -/
theorem enabledDevicesChangeOnlyAtReset : Obligations.EnabledDevicesChangeOnlyAtReset := by
  intro i s t hrun hpowerOn hreset
  obtain ⟨mask, u, rfl | rfl, -, -⟩ | hcall | ⟨st, pc, pd, c, d, -, rfl⟩ := exec_cases hrun
  · exact absurd rfl (hpowerOn mask)
  · exact absurd rfl (hreset mask)
  · exact ⟨hcall.rtcEnabled, hcall.memEnabled⟩
  · obtain ⟨-, -, -, hraise⟩ | ⟨-, heffect⟩ := dispatchRun_cases st pc pd c d s
    · rw [hraise]
      exact ⟨rfl, rfl⟩
    · have frame := dispatchEffect_frame st pc pd c d (sample c d s)
      rw [heffect]
      exact ⟨frame.rtcEnabled, frame.memEnabled⟩

/-- Settles O21: the one responder call of an effect reaches the store only when it is the active RTC's. -/
theorem pinChangeReachesTheStoreOnlyThroughTheRtc : Obligations.PinChangeReachesTheStoreOnlyThroughTheRtc := by
  intro c d s t hrun hactive
  obtain rfl := exec_pinChange_cases hrun
  obtain ⟨-, -, -, hraise⟩ | ⟨-, heffect⟩ := dispatchRun_cases s.busState s.prevClock s.prevData c d s
  · rw [hraise]
    rfl
  · rw [heffect]
    exact dispatchEffect_store _ _ _ c d (sample c d s) hactive

end Sys2Proof.Machine
end

/-! ### The invariant of the reachable states (10_state.md R43) -/

section

namespace Sys2Proof.Machine

/-- What the invariant says of the bus registers in each bus state: R43(d) to (g), 43_bus_states.md R179. -/
def BusInv (s : State) : Prop :=
  match s.busState with
  | .idle => s.active = none
  | .addressing => s.active = none ∧ s.bitCount.toNat ≤ 7
  | .ackReadAddr => s.active ≠ none
  | .ackRead => s.active ≠ none ∧ s.bitCount = 0 ∧ (s.prevClock = false → s.sdaOut = true)
  | .ackWrite => s.active ≠ none
  | .nackWrite => False
  | .reading => s.active ≠ none ∧ s.bitCount.toNat ≤ 8
  | .writing => s.active ≠ none ∧ s.bitCount.toNat ≤ 7
  | .waiting => s.active ≠ none ∧ s.sdaOut = true

/-- The invariant in four parts: no fault, the clock line, the responders, and the bus registers by bus state. In
each of the nine states the other states' clauses of `State.Inv` say nothing. -/
theorem State.inv_iff (s : State) :
    s.Inv ↔ s.fault = none ∧ s.sclOut = true ∧ RespondersInv s ∧ BusInv s := by
  constructor
  · rintro ⟨hfault, hscl, hreg, hmem, held, onlyThen, received, sent, answer, waiting, slot, nack, hwf⟩
    refine ⟨hfault, hscl, ⟨hreg, hmem, hwf⟩, ?_⟩
    unfold BusInv
    cases hst : s.busState <;> simp_all [holdsResponder]
  · rintro ⟨hfault, hscl, ⟨hreg, hmem, hwf⟩, hbus⟩
    unfold BusInv at hbus
    constructor <;> cases hst : s.busState <;> simp_all [holdsResponder]

/-- `BusInv` reads five fields. -/
theorem BusInv.congr {s t : State} (h : BusInv s) (hst : t.busState = s.busState) (hactive : t.active = s.active)
    (hcount : t.bitCount = s.bitCount) (hclock : t.prevClock = s.prevClock) (hdata : t.sdaOut = s.sdaOut) :
    BusInv t := by
  unfold BusInv at h ⊢
  rwa [hst, hactive, hcount, hclock, hdata]

theorem CallResult.inv {s t : State} (h : CallResult s t) (hs : s.Inv) : t.Inv := by
  obtain ⟨hfault, hscl, hresponders, hbus⟩ := (State.inv_iff s).1 hs
  exact (State.inv_iff t).2 ⟨h.fault.trans hfault, h.sclOut.trans hscl, h.responders hresponders,
    hbus.congr h.busState h.active h.bitCount h.prevClock h.sdaOut⟩

/-- All a machine reset does (70_reset_and_hazards.md R241 to R243): the state after reset but for the devices, the
store and what reset does not touch. -/
theorem machineReset_eq (mask : Nat) {s : State} (h : s.fault = none) :
    machineReset mask s = { State.reset with
      rtcEnabled := mask.testBit Config.maskBitRtc
      memEnabled := mask.testBit Config.maskBitMem
      store := s.store.storeReset s.draws
      trace := s.trace
      calls := s.calls
      draws := s.draws + 1 } := by
  simp only [machineReset, busReset, storeReset, installDevices, clearTouched, State.reset, h, maskEnablesRtc,
    maskEnablesMem]

theorem machineReset_inv (mask : Nat) {s : State} (h : s.fault = none) : (machineReset mask s).Inv := by
  have hwf : (s.store.storeReset s.draws).wf = true := Memory.wf_storeReset s.draws s.store
  rw [machineReset_eq mask h, State.inv_iff]
  refine ⟨rfl, rfl, ?_, ?_⟩
  · simp [RespondersInv, State.reset, hwf]
  · simp [BusInv, State.reset]

/-! #### The edges, state by state -/

theorem bitCount_succ_le : ∀ n : BitVec 4, n ≠ 7 → n.toNat ≤ 7 → (n + 1).toNat ≤ 7 := by decide

theorem bitCount_pred_le : ∀ n : BitVec 4, n ≠ 0 → n.toNat ≤ 8 → (n - 1).toNat ≤ 8 := by decide

/-- A falling edge of Reading stays there with its responder, and does not count up. -/
theorem readingFall_keeps (s : State) :
    (readingFall s).busState = s.busState ∧ (readingFall s).active = s.active ∧
      (s.bitCount.toNat ≤ 8 → (readingFall s).bitCount.toNat ≤ 8) := by
  by_cases hzero : s.bitCount = 0
  · rw [readingFall_of_zero hzero]
    exact ⟨rfl, rfl, id⟩
  · by_cases height : s.bitCount = 8
    · obtain ⟨hst, hactive, hcount⟩ := refill_keeps s
      rw [readingFall_of_eight height]
      refine ⟨hst, hactive, fun _ => ?_⟩
      rw [driveNextBit_bitCount, hcount, height]
      decide
    · rw [readingFall_within hzero height]
      exact ⟨rfl, rfl, bitCount_pred_le s.bitCount hzero⟩

theorem fallHandler_busInv {s : State} (h : BusInv s) (d : Level) :
    BusInv (fallHandler s.busState (sample false d s)) := by
  cases hst : s.busState with
  | reading =>
    obtain ⟨hstate, hactive, hcount⟩ := readingFall_keeps (sample false d s)
    simp only [BusInv, hst] at h
    simp only [BusInv, fallHandler, hstate, hactive, sample_busState, sample_active, hst]
    exact ⟨h.1, hcount h.2⟩
  | ackRead =>
    simp only [BusInv, hst] at h
    simp only [BusInv, fallHandler, ackReadFall, release_busState, sample_busState, hst]
    exact ⟨h.1, h.2.1, fun _ => rfl⟩
  | nackWrite => simp only [BusInv, hst] at h
  | idle | addressing | ackReadAddr | ackWrite | writing | waiting =>
    simp only [BusInv, hst] at h
    simpa [BusInv, fallHandler, idleFall, addressingFall, ackReadAddrFall, ackWriteFall, writingFall, waitingFall,
      hst] using h

theorem recogniseAddress_busInv (s : State) : BusInv (recogniseAddress s) := by
  obtain ⟨-, hidle⟩ | ⟨r, -, hcalled⟩ := recogniseAddress_cases s
  · rw [hidle]
    exact (rfl : none = none)
  · rw [hcalled]
    cases dirOf s.srIn <;> exact Option.some_ne_none r

theorem deliverByte_busInv {s : State} (h : s.active ≠ none) : BusInv (deliverByte s) := by
  obtain ⟨r, hr⟩ := Option.ne_none_iff_exists'.mp h
  have hactive : (callWrite r s.srIn s).1.active = s.active := (callWrite_result r s.srIn s).active
  rw [deliverByte_of_active hr]
  exact fun hnone => h (hactive.symm.trans hnone)

/-- The data line is released in Waiting because the falling edge of the answer slot has released it. -/
theorem riseHandler_busInv {s : State} (h : BusInv s) (hclock : s.prevClock = false) (d : Level) :
    BusInv (riseHandler d s.busState (sample true d s)) := by
  cases hst : s.busState with
  | addressing =>
    simp only [BusInv, hst] at h
    by_cases hlast : (sample true d s).bitCount = 7
    · rw [riseHandler, addressingRise_last hlast]
      exact recogniseAddress_busInv _
    · rw [riseHandler, addressingRise_within hlast]
      simp only [BusInv, shiftBit_busState, sample_busState, hst]
      exact ⟨h.1, bitCount_succ_le s.bitCount hlast h.2⟩
  | writing =>
    simp only [BusInv, hst] at h
    by_cases hlast : (sample true d s).bitCount = 7
    · rw [riseHandler, writingRise_last hlast]
      exact deliverByte_busInv h.1
    · rw [riseHandler, writingRise_within hlast]
      simp only [BusInv, shiftBit_busState, sample_busState, hst]
      exact ⟨h.1, bitCount_succ_le s.bitCount hlast h.2⟩
  | reading =>
    simp only [BusInv, hst] at h
    by_cases hzero : (sample true d s).bitCount = 0
    · rw [riseHandler, readingRise_of_zero hzero]
      exact ⟨h.1, hzero, fun hlow => Bool.noConfusion hlow⟩
    · rw [riseHandler, readingRise_of_nonzero hzero]
      simpa [BusInv, hst] using h
  | ackRead =>
    simp only [BusInv, hst] at h
    cases d with
    | false =>
      rw [riseHandler, ackReadRise_ack]
      exact ⟨h.1, Nat.le_refl 8⟩
    | true =>
      rw [riseHandler, ackReadRise_nack]
      exact ⟨h.1, h.2.2 hclock⟩
  | ackReadAddr =>
    simp only [BusInv, hst] at h
    exact ⟨h, Nat.le_refl 8⟩
  | ackWrite =>
    simp only [BusInv, hst] at h
    exact ⟨h, Nat.zero_le 7⟩
  | nackWrite => simp only [BusInv, hst] at h
  | idle | waiting =>
    simp only [BusInv, hst] at h
    simpa [BusInv, riseHandler, idleRise, waitingRise, hst] using h

/-- In the states whose edges need a responder the invariant gives one (10_state.md R43(d)). -/
theorem BusInv.responder {s : State} (h : BusInv s) (hneeds : needsResponder s.busState = true) :
    s.active ≠ none := by
  obtain hst | hst := (needsResponder_iff _).1 hneeds <;> simp only [BusInv, hst] at h <;> exact h.1

theorem dispatchEffect_busInv {s : State} (h : BusInv s) (c d : Level) :
    BusInv (dispatchEffect s.busState s.prevClock s.prevData c d (sample c d s)) := by
  unfold dispatchEffect
  cases hclass : classify s.prevClock s.prevData c d with
  | start => exact ⟨rfl, Nat.zero_le 7⟩
  | stop => exact (rfl : none = none)
  | none => exact h.congr rfl rfl rfl (classify_none_clock hclass).symm rfl
  | fall =>
    obtain ⟨-, rfl⟩ := (classify_fall_iff ..).1 hclass
    exact fallHandler_busInv h d
  | rise =>
    obtain ⟨hclock, rfl⟩ := (classify_rise_iff ..).1 hclass
    exact riseHandler_busInv h hclock d

/-- A pin change keeps the invariant. -/
theorem pinChange_inv {s : State} (h : s.Inv) (c d : Level) :
    (dispatchRun s.busState s.prevClock s.prevData c d s).Inv := by
  obtain ⟨hfault, hscl, hresponders, hbus⟩ := (State.inv_iff s).1 h
  obtain ⟨-, hneeds, hnone, -⟩ | ⟨-, heffect⟩ := dispatchRun_cases s.busState s.prevClock s.prevData c d s
  · exact absurd hnone (hbus.responder hneeds)
  · have frame := dispatchEffect_frame s.busState s.prevClock s.prevData c d (sample c d s)
    rw [heffect, State.inv_iff]
    exact ⟨frame.fault.trans hfault, dispatchEffect_sclOut _ _ _ c d _ hscl, frame.responders hresponders,
      dispatchEffect_busInv hbus c d⟩

/-- Settles O15: a reset establishes the invariant, a responder call keeps it, and a row that describes the state is
the pin change of its sample. -/
theorem everyStepKeepsTheInvariant : Obligations.EveryStepKeepsTheInvariant := by
  intro s t hinv hstep
  obtain ⟨-, rfl⟩ | ⟨w, rest, i, -, -, hdescribes, hrun⟩ := step_cases hstep
  · exact hinv
  · have hinv' : State.Inv { s with calls := rest } := (State.inv_iff _).2 ((State.inv_iff s).1 hinv)
    obtain ⟨mask, u, -, hfault, rfl⟩ | hcall | ⟨st, pc, pd, c, d, hfields, rfl⟩ := exec_cases hrun
    · exact machineReset_inv mask hfault
    · exact hcall.inv hinv'
    · obtain ⟨rfl, rfl, rfl⟩ := hfields hdescribes
      exact pinChange_inv hinv' c d

/-- Settles O16: part by part; the store after reset is canonical. -/
theorem resetStateMeetsTheInvariant : Obligations.ResetStateMeetsTheInvariant :=
  (State.inv_iff _).2 ⟨rfl, rfl, ⟨Nat.zero_le _, Nat.zero_le _, reset_store_wf⟩, rfl, Nat.zero_le _⟩

/-- A step stops with a fault only where the instruction it runs does. -/
theorem step_fault_cases {s : State} {r : Fault} (h : step s = .fault r) :
    ∃ i rest, exec i { s with calls := rest } = .fault r := by
  cases hcalls : s.calls with
  | nil =>
    rw [step_idle hcalls] at h
    cases h
  | cons w rest =>
    cases hdecode : decode w with
    | error e =>
      rw [step_of_undecodable hcalls hdecode] at h
      cases h
    | ok i =>
      rw [step_eq_of_decode hcalls hdecode] at h
      split at h
      · exact ⟨i, rest, h⟩
      · cases h

/-- Settles O17: an unfaulted block completes every instruction, and the next state is unfaulted by the
invariant. -/
theorem noFaultFromTheInvariant : Obligations.NoFaultFromTheInvariant := by
  intro s hinv
  constructor
  · intro r hstep
    obtain ⟨i, rest, hrun⟩ := step_fault_cases hstep
    obtain ⟨t, ht⟩ := exists_exec_next (s := { s with calls := rest }) hinv.unfaulted i
    cases ht.symm.trans hrun
  · intro t hstep
    exact (everyStepKeepsTheInvariant s t hinv hstep).unfaulted

end Sys2Proof.Machine
end

/-! ### The events of a pin change (20_memory.md R61, 42_bus_detection.md R144) -/

section

namespace Sys2Proof.Machine

/-- Events among which there is neither a `stop` call nor a save. -/
def Quiet (events : List Event) : Prop :=
  (∀ r, Event.stop r ∉ events) ∧ ∀ image, Event.save image ∉ events

/-- `t` has the trace of `s` and quiet events after it. -/
def QuietStep (s t : State) : Prop := ∃ new, Quiet new ∧ t.trace = s.trace ++ new

theorem QuietStep.of_trace_eq {s t : State} (h : t.trace = s.trace) : QuietStep s t :=
  ⟨[], by simp [Quiet], by rw [h, List.append_nil]⟩

/-- The events of a responder's `write`: the write, and after it the save of an RTC data byte stored at 0x3F. -/
def writeEvents (r : Responder) (b : Byte) (s : State) : List Event :=
  .write r b .ack ::
    if r = .rtc ∧ s.rtcPhase = .dataPhase ∧ s.rtcReg.toNat % 256 = 0x3F then [.save (callWrite r b s).1.store]
    else []

theorem callWrite_trace (r : Responder) (b : Byte) (s : State) :
    (callWrite r b s).1.trace = s.trace ++ writeEvents r b s := by
  cases r with
  | mem => rfl
  | rtc =>
    cases hphase : s.rtcPhase with
    | addressPhase => simp [callWrite, rtcWrite, writeEvents, hphase, rtcWriteAddress]
    | dataPhase => simp [callWrite, rtcWrite, writeEvents, hphase, rtcWriteData_state]

theorem stop_notMem_writeEvents (r' r : Responder) (b : Byte) (s : State) : Event.stop r' ∉ writeEvents r b s := by
  unfold writeEvents
  split <;> simp

theorem save_mem_writeEvents {image : Memory} {r : Responder} {b : Byte} {s : State} :
    Event.save image ∈ writeEvents r b s ↔
      (r = .rtc ∧ s.rtcPhase = .dataPhase ∧ s.rtcReg.toNat % 256 = 0x3F) ∧ image = (callWrite r b s).1.store := by
  unfold writeEvents
  split
  · next h => simp [h]
  · next h => simp [h]

theorem callRead_trace (r : Responder) (s : State) :
    (callRead r s).1.trace = s.trace ++ [.read r (callRead r s).2] := by
  cases r with
  | mem => rfl
  | rtc =>
    obtain ⟨m, n, h⟩ := rtcRead_frame s
    rw [callRead, h]

theorem callStop_trace (r : Responder) (s : State) : (callStop r s).trace = s.trace ++ [.stop r] := by
  cases r <;> rfl

theorem recogniseAddress_quiet (s : State) : QuietStep s (recogniseAddress s) := by
  obtain ⟨-, hidle⟩ | ⟨r, -, hcalled⟩ := recogniseAddress_cases s
  · rw [hidle]
    exact .of_trace_eq rfl
  · rw [hcalled]
    refine ⟨[.start r (addr7Of s.srIn) (dirOf s.srIn) .ack], by simp [Quiet], ?_⟩
    cases r <;> rfl

theorem refill_quiet (s : State) : QuietStep s (refill s) := by
  cases hr : s.active with
  | none =>
    rw [refill_of_inactive hr]
    exact .of_trace_eq rfl
  | some r =>
    rw [refill_of_active hr]
    exact ⟨[.read r (callRead r s).2], by simp [Quiet], callRead_trace r s⟩

/-- No falling edge calls `stop` or requests a save. -/
theorem fallHandler_quiet (st : BusState) (s : State) : QuietStep s (fallHandler st s) := by
  cases st with
  | reading =>
    by_cases hzero : s.bitCount = 0
    · rw [fallHandler, readingFall_of_zero hzero]
      exact .of_trace_eq rfl
    · by_cases height : s.bitCount = 8
      · rw [fallHandler, readingFall_of_eight height]
        exact refill_quiet s
      · rw [fallHandler, readingFall_within hzero height]
        exact .of_trace_eq rfl
  | _ => exact .of_trace_eq rfl

/-- A rising edge is quiet unless it delivers a byte to the active responder. -/
theorem riseHandler_quiet (d : Level) (st : BusState) (s : State)
    (h : ¬(st = .writing ∧ s.bitCount = 7)) : QuietStep s (riseHandler d st s) := by
  cases st with
  | addressing =>
    by_cases hlast : s.bitCount = 7
    · rw [riseHandler, addressingRise_last hlast]
      exact recogniseAddress_quiet (shiftBit d s)
    · rw [riseHandler, addressingRise_within hlast]
      exact .of_trace_eq rfl
  | writing =>
    rw [riseHandler, writingRise_within fun hlast => h ⟨rfl, hlast⟩]
    exact .of_trace_eq rfl
  | reading =>
    by_cases hzero : s.bitCount = 0
    · rw [riseHandler, readingRise_of_zero hzero]
      exact .of_trace_eq rfl
    · rw [riseHandler, readingRise_of_nonzero hzero]
      exact .of_trace_eq rfl
  | ackRead =>
    cases d with
    | false => rw [riseHandler, ackReadRise_ack]; exact .of_trace_eq rfl
    | true => rw [riseHandler, ackReadRise_nack]; exact .of_trace_eq rfl
  | _ => exact .of_trace_eq rfl

/-- The pin change is a STOP condition while `r` is active. -/
def StopsResponder (c d : Level) (s : State) (r : Responder) : Prop :=
  s.prevClock = true ∧ s.prevData = false ∧ c = true ∧ d = true ∧ s.active = some r

/-- The pin change is the rising edge at the eighth bit of a byte in Writing, for `r`. -/
def DeliversByte (c : Level) (s : State) (r : Responder) : Prop :=
  s.prevClock = false ∧ c = true ∧ s.busState = .writing ∧ s.bitCount = 7 ∧ s.active = some r

theorem StopsResponder.active_eq {c d : Level} {s : State} {r : Responder} (h : StopsResponder c d s r) :
    s.active = some r := by
  obtain ⟨-, -, -, -, hactive⟩ := h
  exact hactive

theorem DeliversByte.active_eq {c : Level} {s : State} {r : Responder} (h : DeliversByte c s r) :
    s.active = some r := by
  obtain ⟨-, -, -, -, hactive⟩ := h
  exact hactive

theorem StopsResponder.classify_eq {c d : Level} {s : State} {r : Responder} (h : StopsResponder c d s r) :
    classify s.prevClock s.prevData c d = .stop := by
  obtain ⟨hpc, hpd, hc, hd, -⟩ := h
  exact (classify_stop_iff ..).2 ⟨hpc, hpd, hc, hd⟩

theorem DeliversByte.classify_eq {c : Level} {s : State} {r : Responder} (h : DeliversByte c s r) (d : Level) :
    classify s.prevClock s.prevData c d = .rise := by
  obtain ⟨hclock, hc, -⟩ := h
  exact (classify_rise_iff ..).2 ⟨hclock, hc⟩

/-- The events of a pin change that is neither: they are quiet. -/
def QuietPinChange (c d : Level) (s t : State) : Prop :=
  QuietStep s t ∧ (∀ r, ¬StopsResponder c d s r) ∧ ∀ r, ¬DeliversByte c s r

/-- The events of a delivered byte: the write of `r` at a state `u` with the registers of `s`. -/
def DeliveredByte (c : Level) (r : Responder) (s t : State) : Prop :=
  DeliversByte c s r ∧ ∃ u : State, u.rtcPhase = s.rtcPhase ∧ u.rtcReg = s.rtcReg ∧
    t.trace = s.trace ++ writeEvents r u.srIn u ∧ t.store = (callWrite r u.srIn u).1.store

theorem riseHandler_trace_cases {c d : Level} {s : State} (hclass : classify s.prevClock s.prevData c d = .rise) :
    QuietPinChange c d s (riseHandler d s.busState (sample c d s)) ∨
      ∃ r, DeliveredByte c r s (riseHandler d s.busState (sample c d s)) := by
  have hstops (r : Responder) : ¬StopsResponder c d s r := fun h => by cases hclass.symm.trans h.classify_eq
  by_cases hlast : s.busState = .writing ∧ s.bitCount = 7
  · obtain ⟨hst, hcount⟩ := hlast
    have hdeliver : riseHandler d s.busState (sample c d s) = deliverByte (shiftBit d (sample c d s)) := by
      rw [hst]
      exact writingRise_last (s := sample c d s) hcount d
    rw [hdeliver]
    cases hr : s.active with
    | none =>
      rw [deliverByte_of_inactive (s := shiftBit d (sample c d s)) hr]
      exact .inl ⟨.of_trace_eq rfl, hstops, fun r h => by cases hr.symm.trans h.active_eq⟩
    | some r =>
      obtain ⟨hclock, hc⟩ := (classify_rise_iff ..).1 hclass
      rw [deliverByte_of_active (s := shiftBit d (sample c d s)) hr]
      exact .inr ⟨r, ⟨hclock, hc, hst, hcount, hr⟩, shiftBit d (sample c d s), rfl, rfl, callWrite_trace r ..,
        rfl⟩
  · refine .inl ⟨riseHandler_quiet d s.busState (sample c d s) hlast, hstops, ?_⟩
    rintro r ⟨-, -, hst, hcount, -⟩
    exact hlast ⟨hst, hcount⟩

/-- All a pin change can append to the trace: quiet events, a stop call, or the events of a delivered byte. -/
theorem pinChange_trace_cases (c d : Level) (s : State) {t : State}
    (ht : t = dispatchRun s.busState s.prevClock s.prevData c d s) :
    QuietPinChange c d s t ∨
    (∃ r, StopsResponder c d s r ∧ t.trace = s.trace ++ [.stop r] ∧ t.active = none) ∨
    ∃ r, DeliveredByte c r s t := by
  have hquiet (hstep : QuietStep s t) (hstop : classify s.prevClock s.prevData c d ≠ .stop)
      (hrise : classify s.prevClock s.prevData c d ≠ .rise) : QuietPinChange c d s t :=
    ⟨hstep, fun _ h => hstop h.classify_eq, fun _ h => hrise (h.classify_eq d)⟩
  obtain ⟨-, -, hnone, hraise⟩ | ⟨-, heffect⟩ := dispatchRun_cases s.busState s.prevClock s.prevData c d s
  · refine .inl ⟨.of_trace_eq (by rw [ht, hraise]; rfl), fun r h => ?_, fun r h => ?_⟩
    · cases hnone.symm.trans h.active_eq
    · cases hnone.symm.trans h.active_eq
  · unfold dispatchEffect at heffect
    rw [heffect] at ht
    cases hclass : classify s.prevClock s.prevData c d with
    | start | none =>
      rw [hclass] at ht hquiet
      exact .inl (hquiet (.of_trace_eq (ht ▸ rfl)) nofun nofun)
    | fall =>
      rw [hclass] at ht hquiet
      exact .inl (hquiet (ht ▸ fallHandler_quiet s.busState (sample c d s)) nofun nofun)
    | rise =>
      rw [hclass] at ht
      exact ht ▸ (riseHandler_trace_cases hclass).imp_right .inr
    | stop =>
      rw [hclass] at ht
      cases hr : s.active with
      | none =>
        refine .inl ⟨.of_trace_eq ?_, fun r h => ?_, fun r h => ?_⟩
        · rw [ht]
          exact (congrArg State.trace (stopCondition_of_inactive (s := sample c d s) hr)).trans rfl
        · cases hr.symm.trans h.active_eq
        · cases hr.symm.trans h.active_eq
      | some r =>
        obtain ⟨hpc, hpd, hc, hd⟩ := (classify_stop_iff ..).1 hclass
        refine .inr (.inl ⟨r, ⟨hpc, hpd, hc, hd, hr⟩, ?_, ht ▸ rfl⟩)
        rw [ht]
        exact (congrArg State.trace (stopCondition_of_active (s := sample c d s) hr)).trans (callStop_trace r _)

/-- Settles O23: neither quiet events nor those of a delivered byte have a stop call, and there is one active
responder. -/
theorem stopCallsOfAPinChange : Obligations.StopCallsOfAPinChange := by
  intro c d s hfault
  have hrun := exec_pinChange_next hfault c d
  have settle {t : State} {new : List Event} (hstop : ∀ r, Event.stop r ∈ new ↔ StopsResponder c d s r)
      (hactive : ∀ r, StopsResponder c d s r → t.active = none) :
      (∀ r, Event.stop r ∈ new ↔ StopsResponder c d s r) ∧
        ((∃ r, Event.stop r ∈ new) → t.active = none) :=
    ⟨hstop, fun ⟨r, hr⟩ => hactive r ((hstop r).1 hr)⟩
  obtain ⟨⟨new, hquiet, htrace⟩, hno, -⟩ | ⟨r, hstop, htrace, hactive⟩ |
    ⟨r, hdelivers, u, -, -, htrace, -⟩ := pinChange_trace_cases c d s rfl
  · refine ⟨_, new, hrun, htrace, settle (fun r => ?_) fun r h => absurd h (hno r)⟩
    exact iff_of_false (hquiet.1 r) (hno r)
  · refine ⟨_, [.stop r], hrun, htrace, settle (fun r' => ?_) fun _ _ => hactive⟩
    rw [List.mem_singleton]
    constructor
    · rintro ⟨rfl⟩
      exact hstop
    · intro hstop'
      rw [Option.some.inj (hstop'.active_eq.symm.trans hstop.active_eq)]
  · have hno (r' : Responder) : ¬StopsResponder c d s r' := fun h => by
      cases (hdelivers.classify_eq d).symm.trans h.classify_eq
    refine ⟨_, _, hrun, htrace, settle (fun r' => ?_) fun r' h => absurd h (hno r')⟩
    exact iff_of_false (stop_notMem_writeEvents r' r u.srIn u) (hno r')

/-- Settles O22: a save is among the events only after a delivered byte, and then the RTC's write decides. -/
theorem saveRequestsOfAPinChange : Obligations.SaveRequestsOfAPinChange := by
  intro c d s hfault
  have hrun := exec_pinChange_next hfault c d
  obtain ⟨⟨new, hquiet, htrace⟩, -, hno⟩ | ⟨r, hstop, htrace, -⟩ |
    ⟨r, hdelivers, u, hphase, hreg, htrace, hstore⟩ := pinChange_trace_cases c d s rfl
  · refine ⟨_, new, hrun, htrace, fun image h => absurd h (hquiet.2 image), ?_⟩
    refine iff_of_false (fun ⟨image, h⟩ => hquiet.2 image h) ?_
    rintro ⟨hclock, hc, hst, hcount, hactive, -, -⟩
    exact hno .rtc ⟨hclock, hc, hst, hcount, hactive⟩
  · refine ⟨_, [.stop r], hrun, htrace, by simp, iff_of_false (by simp) ?_⟩
    rintro ⟨hclock, -⟩
    obtain ⟨hhigh, -⟩ := hstop
    cases hclock.symm.trans hhigh
  · refine ⟨_, _, hrun, htrace, ?_, ?_⟩
    · intro image hmem
      exact (save_mem_writeEvents.1 hmem).2.trans hstore.symm
    · constructor
      · rintro ⟨image, hmem⟩
        obtain ⟨⟨rfl, hdata, haddr⟩, -⟩ := save_mem_writeEvents.1 hmem
        obtain ⟨hclock, hc, hst, hcount, hactive⟩ := hdelivers
        exact ⟨hclock, hc, hst, hcount, hactive, hphase ▸ hdata, hreg ▸ haddr⟩
      · rintro ⟨-, -, -, -, hactive, hdata, haddr⟩
        have hr : r = .rtc := Option.some.inj (hdelivers.active_eq.symm.trans hactive)
        exact ⟨_, save_mem_writeEvents.2 ⟨⟨hr, hphase ▸ hdata, hreg ▸ haddr⟩, rfl⟩⟩

end Sys2Proof.Machine
end

/-! ### The formats of a byte: bit framing and the time registers (30_encoding.md R76, R79) -/

section

namespace Sys2Proof.Machine

theorem shiftIn_eq (sr : Byte) (d : Level) : shiftIn sr d = (sr <<< 1) ||| (if d then 1 else 0) := by
  cases d <;> rfl

/-- A shifted-in bit is bit 0, and the others move up by one. -/
theorem getLsbD_shiftIn (sr : Byte) (d : Level) (n : Nat) :
    (shiftIn sr d).getLsbD n = if n = 0 then d else decide (n < 8) && sr.getLsbD (n - 1) := by
  cases n with
  | zero => cases d <;> simp [shiftIn]
  | succ n => cases d <;> simp [shiftIn]

/-- Settles O58: after eight shifts bit `n` is the one shifted in `n` shifts before the last. -/
theorem eightBitsShiftInAByte : Obligations.EightBitsShiftInAByte := by
  intro x before
  apply BitVec.eq_of_getLsbD_eq
  intro n hn
  simp only [List.foldl, getLsbD_shiftIn]
  have hbits : n = 0 ∨ n = 1 ∨ n = 2 ∨ n = 3 ∨ n = 4 ∨ n = 5 ∨ n = 6 ∨ n = 7 := by omega
  obtain rfl | rfl | rfl | rfl | rfl | rfl | rfl | rfl := hbits <;> simp

/-- Packed BCD as arithmetic (00_scope.md R11): the low digit fits its nibble. -/
theorem bcd_eq_ofNat (v : Nat) : bcd v = BitVec.ofNat 8 (16 * (v / 10) + v % 10) := by
  have hdigit : v % 10 < 2 ^ 4 := by omega
  rw [bcd, ← Nat.shiftLeft_add_eq_or_of_lt hdigit, Nat.shiftLeft_eq, Nat.mul_comm]

theorem toNat_bcd {v : Nat} (h : v < 100) : (bcd v).toNat = 16 * (v / 10) + v % 10 := by
  rw [bcd_eq_ofNat, BitVec.toNat_ofNat]
  omega

theorem digits_lt_of_day (t : TimeSample) : 16 * (t.day.val / 10) + t.day.val % 10 < 64 := by
  have := t.day.isLt
  omega

theorem digits_lt_of_month (t : TimeSample) : 16 * (t.month.val / 10) + t.month.val % 10 < 32 := by
  have := t.month.isLt
  omega

/-- Byte 0x05 as arithmetic (30_encoding.md R79): the digits of an admitted day fit below the year. -/
theorem yearDayByte_eq_ofNat (t : TimeSample) :
    yearDayByte t = BitVec.ofNat 8 (64 * (t.year % 4) + (16 * (t.day.val / 10) + t.day.val % 10)) := by
  have hbcd : (bcd t.day).toNat = 16 * (t.day.val / 10) + t.day.val % 10 :=
    toNat_bcd (by have := t.day.isLt; omega)
  have hfits : (bcd t.day).toNat < 2 ^ 6 := hbcd ▸ digits_lt_of_day t
  have hyear : t.year &&& 3 = t.year % 4 := Nat.and_two_pow_sub_one_eq_mod t.year 2
  rw [yearDayByte, ← Nat.shiftLeft_add_eq_or_of_lt hfits, Nat.shiftLeft_eq, hyear, hbcd, Nat.mul_comm]

/-- Byte 0x06 as arithmetic (30_encoding.md R79): the digits of an admitted month fit below the weekday. -/
theorem weekdayMonthByte_eq_ofNat (t : TimeSample) :
    weekdayMonthByte t = BitVec.ofNat 8 (32 * t.weekday.val + (16 * (t.month.val / 10) + t.month.val % 10)) := by
  have hbcd : (bcd t.month).toNat = 16 * (t.month.val / 10) + t.month.val % 10 :=
    toNat_bcd (by have := t.month.isLt; omega)
  have hfits : (bcd t.month).toNat < 2 ^ 5 := hbcd ▸ digits_lt_of_month t
  rw [weekdayMonthByte, ← Nat.shiftLeft_add_eq_or_of_lt hfits, Nat.shiftLeft_eq, hbcd, Nat.mul_comm]

/-- Settles O59: both bytes are sums of their fields, each below the next field's weight. -/
theorem timeByteFieldsDoNotOverlap : Obligations.TimeByteFieldsDoNotOverlap := by
  intro t
  have hyear : t.year % 4 < 4 := Nat.mod_lt _ (by decide)
  have hday := digits_lt_of_day t
  have hweekday := t.weekday.isLt
  have hmonth := digits_lt_of_month t
  simp only [yearDayByte_eq_ofNat, weekdayMonthByte_eq_ofNat, BitVec.extractLsb'_toNat, BitVec.toNat_ofNat,
    Nat.shiftRight_eq_div_pow, Nat.reducePow]
  generalize t.year % 4 = year at *
  generalize 16 * (t.day.val / 10) + t.day.val % 10 = day at *
  generalize 16 * (t.month.val / 10) + t.month.val % 10 = month at *
  omega

/-- Settles O60: the mask with exactly the wanted ones of the two bits, which are different bits. -/
theorem eachDeviceIsEnabledOnItsOwn : Obligations.EachDeviceIsEnabledOnItsOwn := by
  intro rtc mem
  have hne := maskBits_distinct
  refine ⟨(rtc.toNat <<< Config.maskBitRtc) ||| (mem.toNat <<< Config.maskBitMem), ?_⟩
  cases rtc <;> cases mem <;>
    simp [maskEnablesRtc, maskEnablesMem, Nat.shiftLeft_eq, hne, hne.symm]

end Sys2Proof.Machine
end

/-! ### Results of the calls and of the edges that call a responder -/

section

namespace Sys2Proof.Machine

/-- Settles O49: an unfaulted block runs `memWrite`, whose register value is the byte modulo 128. -/
theorem memWriteResult : Obligations.MemWriteResult := by
  intro b s hfault
  rw [← memRegOf_eq_ofNat]
  exact whenUnfaulted_next hfault fun s => (memWrite b s).1

/-- Settles O52: an unfaulted block runs `save`, which is that update. -/
theorem saveRequestResult : Obligations.SaveRequestResult := by
  intro s hfault
  exact whenUnfaulted_next hfault save

/-- Settles O34: the two cases of the handler, after the sample of a rising edge. -/
theorem ackReadRiseSamplesTheAnswer : Obligations.AckReadRiseSamplesTheAnswer := by
  intro pd s hfault
  have hrun (d : Level) : exec (.ackReadRise pd d) s = .next (ackReadRise d (sample true d s)) :=
    pinEvent_next hfault true d (ackReadRise d)
  constructor
  · rw [hrun, ackReadRise_nack]
    rfl
  · rw [hrun, ackReadRise_ack]
    rfl

/-- The full effect of an RTC read (40_rtc_responder.md R103), up to the synthesis of the time. -/
theorem rtcRead_state (s : State) :
    (rtcRead s).1 = { s with
      store := (refreshTime s).store
      draws := (refreshTime s).draws
      rtcReg := BitVec.ofNat 16 ((s.rtcReg.toNat + 1) % 256)
      trace := s.trace ++ [.read .rtc ((refreshTime s).store.read (s.rtcReg.toNat % 256))] } := by
  obtain ⟨m, n, h⟩ := refreshTime_frame s
  simp only [rtcRead, h, storeRead, toNat_rtcAddress, advanceRtcReg, advanced_rtcReg_eq_ofNat, emit]

theorem exec_rtcRead {s : State} (h : s.fault = none) : exec .rtcRead s = .next (rtcRead s).1 :=
  whenUnfaulted_next h fun s => (rtcRead s).1

/-- Settles O44: at 0x10 and above no time is synthesised. -/
theorem rtcReadAboveTheTimeWindow : Obligations.RtcReadAboveTheTimeWindow := by
  intro s hfault hhigh
  have hrefresh : refreshTime s = s := refreshTime_high (Nat.not_lt.2 hhigh)
  rw [exec_rtcRead hfault, rtcRead_state, hrefresh]

/-- Settles O45: the bytes of the time overwrite as arithmetic, read at a register below 0x10. -/
theorem rtcReadInTheTimeWindow : Obligations.RtcReadInTheTimeWindow := by
  intro s hfault hwf hlow time digits
  have hrefresh : refreshTime s = timeOverwrite s := refreshTime_low hlow
  have hstore : (rtcRead s).1.store = (timeOverwrite s).store := by rw [rtcRead_state, hrefresh]
  have hdraws : (timeOverwrite s).draws = s.draws + 1 := by
    obtain ⟨m, h⟩ := timeOverwrite_frame s
    rw [h]
  have haddress : s.rtcReg.toNat % 256 = s.rtcReg.toNat := by omega
  have hadvance : BitVec.ofNat 16 ((s.rtcReg.toNat + 1) % 256) = s.rtcReg + 1 := by
    apply BitVec.eq_of_toNat_eq
    rw [BitVec.toNat_ofNat, BitVec.toNat_add]
    simp
    omega
  refine ⟨(rtcRead s).1, exec_rtcRead hfault, ?_, ?_⟩
  · rw [hstore, rtcRead_state, hrefresh, hdraws, haddress, hadvance]
  · rw [hstore]
    have hread (a : Nat) : (timeOverwrite s).store.read a = _ := read_writeTime hwf time a
    refine ⟨?_, ?_, ?_, ?_, ?_, ?_, fun a ha => ?_, wf_timeOverwrite hwf⟩
    · rw [hread]; rfl
    · rw [hread]; exact bcd_eq_ofNat _
    · rw [hread]; exact bcd_eq_ofNat _
    · rw [hread]; exact bcd_eq_ofNat _
    · rw [hread]; exact yearDayByte_eq_ofNat time
    · rw [hread]; exact weekdayMonthByte_eq_ofNat time
    · rw [hread, if_neg (by omega), if_neg (by omega), if_neg (by omega), if_neg (by omega), if_neg (by omega),
        if_neg (by omega)]

/-! #### The read as the bus sees it -/

/-- A `read` and a sample touch different fields. -/
theorem callRead_sample (r : Responder) (c d : Level) (s : State) :
    callRead r (sample c d s) = (sample c d (callRead r s).1, (callRead r s).2) := by
  cases r with
  | mem => rfl
  | rtc =>
    by_cases hlow : s.rtcReg < 0x0010
    · simp only [callRead, rtcRead, refreshTime_low (s := sample c d s) hlow, refreshTime_low hlow]
      rfl
    · simp only [callRead, rtcRead, refreshTime_high (s := sample c d s) hlow, refreshTime_high hlow]
      rfl

theorem toNat_bitCount_pred : ∀ n : BitVec 4, 0 < n.toNat → (n - 1).toNat = n.toNat - 1 := by decide

theorem exec_readingFall {s : State} {r : Responder} (hfault : s.fault = none) (hactive : s.active = some r)
    (pd d : Level) : exec (.readingFall pd d) s = .next (readingFall (sample false d s)) :=
  responderEdge_next hfault (by rw [hactive]; exact Option.some_ne_none r) false d readingFall

/-- R172 at count 8: the read of the active responder and the first bit of its byte. -/
theorem exec_readingFall_of_eight {s : State} {r : Responder} (hfault : s.fault = none) (hactive : s.active = some r)
    (hcount : s.bitCount = 8) (pd d : Level) :
    exec (.readingFall pd d) s = .next { (callRead r s).1 with
      prevClock := false, prevData := d, srOut := (callRead r s).2, bitCount := 7
      sdaOut := (callRead r s).2.getLsbD 7 } := by
  have hcalled : (callRead r s).1.bitCount = 8 := (callRead_result r s).bitCount.trans hcount
  rw [exec_readingFall hfault hactive, readingFall_of_eight (s := sample false d s) hcount,
    refill_of_active (s := sample false d s) hactive, callRead_sample, driveNextBit]
  simp only [sample, driveData, hcalled]
  rfl

/-- Settles O38: the count picks the branch of the handler, and the read commutes with the sample. -/
theorem readingFallDrivesTheNextBit : Obligations.ReadingFallDrivesTheNextBit := by
  intro pd d r s hfault hactive fetch
  have hfetch : exec fetch s = .next (callRead r s).1 := by
    cases r with
    | rtc => exact exec_rtcRead hfault
    | mem => exact whenUnfaulted_next hfault fun s => (memRead s).1
  refine ⟨fun hzero => ?_, fun hpos hlt => ?_, fun height => ?_⟩
  · rw [exec_readingFall hfault hactive, readingFall_of_zero (s := sample false d s) hzero]
    rfl
  · have hzero : (sample false d s).bitCount ≠ 0 := fun h => Nat.ne_of_gt hpos (congrArg BitVec.toNat h)
    have height : (sample false d s).bitCount ≠ 8 := fun h => Nat.ne_of_lt hlt (congrArg BitVec.toNat h)
    rw [exec_readingFall hfault hactive, readingFall_within hzero height, ← toNat_bitCount_pred s.bitCount hpos]
    rfl
  · exact ⟨_, _, hfetch, callRead_trace r s, exec_readingFall_of_eight hfault hactive height pd d⟩

/-- Settles O57: the ACK leads to Reading at count 8, where the falling edge reads. -/
theorem acknowledgedReadPrefetches : Obligations.AcknowledgedReadPrefetches := by
  intro pd pd' d' r s hfault hactive
  obtain ⟨-, hack⟩ := ackReadRiseSamplesTheAnswer pd s hfault
  let answered : State := { s with busState := .reading, bitCount := 8, prevClock := true, prevData := false }
  refine ⟨_, _, _, hack, exec_readingFall_of_eight (s := answered) hfault hactive rfl pd' d',
    callRead_trace r answered, rfl, rfl, rfl, ?_, ?_⟩
  · rintro rfl
    rw [callRead, rtcRead_state]
  · rintro rfl
    rw [callRead, memRead_state]

/-! #### The eighth bit of a written byte and of an address -/

theorem callWrite_rtc_addressPhase {s : State} (h : s.rtcPhase = .addressPhase) (b : Byte) :
    callWrite .rtc b s = rtcWriteAddress b s := by
  simp only [callWrite, rtcWrite, h]

theorem callWrite_rtc_dataPhase {s : State} (h : s.rtcPhase = .dataPhase) (b : Byte) :
    callWrite .rtc b s = rtcWriteData b s := by
  simp only [callWrite, rtcWrite, h]

/-- Settles O37: the shift, and at the eighth bit the write that the responder and its phase name. -/
theorem writingRiseShiftsAndDelivers : Obligations.WritingRiseShiftsAndDelivers := by
  intro pd d r s hfault hactive byte shifted delivery
  have hshift : shiftBit d (sample true d s) = shifted := by
    rw [shiftBit, shiftIn_eq]
    rfl
  have hrun : exec (.writingRise pd d) s = .next (writingRise d (sample true d s)) :=
    responderEdge_next hfault (by rw [hactive]; exact Option.some_ne_none r) true d (writingRise d)
  have hdelivery : exec delivery shifted = .next (callWrite r byte shifted).1 := by
    cases r with
    | mem => exact whenUnfaulted_next (s := shifted) hfault fun s => (memWrite byte s).1
    | rtc =>
      cases hphase : s.rtcPhase with
      | addressPhase =>
        rw [callWrite_rtc_addressPhase (s := shifted) hphase]
        simp only [delivery, hphase]
        exact whenUnfaulted_next (s := shifted) hfault fun s => (rtcWriteAddress byte s).1
      | dataPhase =>
        rw [callWrite_rtc_dataPhase (s := shifted) hphase]
        simp only [delivery, hphase]
        exact whenUnfaulted_next (s := shifted) hfault fun s => (rtcWriteData byte s).1
  constructor
  · intro hcount
    rw [hrun, writingRise_within (s := sample true d s) hcount, hshift]
  · intro hcount
    refine ⟨_, hdelivery, ?_⟩
    rw [hrun, writingRise_last (s := sample true d s) hcount, hshift, deliverByte_of_active (s := shifted) hactive]

theorem recogniseAddress_of_lookup {s : State} {a : BitVec 7} {dir : Direction} {r : Responder}
    (ha : addr7Of s.srIn = a) (hdir : dirOf s.srIn = dir) (hlookup : lookup a s = some r) :
    recogniseAddress s = { (callStart r a dir s).1 with active := some r, busState := afterAddress dir } := by
  subst ha hdir
  simp only [recogniseAddress, hlookup, callStart_acks]

theorem recogniseAddress_of_unknown {s : State} (h : lookup (addr7Of s.srIn) s = none) :
    recogniseAddress s = { s with busState := .idle, active := none } := by
  simp only [recogniseAddress, h]

theorem lookup_rtc {s : State} (h : s.rtcEnabled = true) : lookup 0x50#7 s = some .rtc := if_pos ⟨rfl, h⟩

theorem lookup_mem {s : State} (h : s.memEnabled = true) : lookup 0x54#7 s = some .mem :=
  (if_neg fun h => absurd h.1 (by decide)).trans (if_pos ⟨rfl, h⟩)

/-- The address bytes of the RTC (44_registry.md R200). -/
theorem addr7Of_eq_rtc : ∀ b : Byte, addr7Of b = 0x50#7 → b = 0xA0 ∨ b = 0xA1 := by decide

/-- The address bytes of the EEPROM (44_registry.md R200). -/
theorem addr7Of_eq_mem : ∀ b : Byte, addr7Of b = 0x54#7 → b = 0xA8 ∨ b = 0xA9 := by decide

/-- Settles O36: the shift, and at the eighth bit the lookup of the byte's address. -/
theorem addressingRiseShiftsAndRecognises : Obligations.AddressingRiseShiftsAndRecognises := by
  intro pd d s hfault byte shifted
  have hshift : shiftBit d (sample true d s) = shifted := by
    rw [shiftBit, shiftIn_eq]
    rfl
  have hrun : exec (.addressingRise pd d) s = .next (addressingRise d (sample true d s)) :=
    pinEvent_next hfault true d (addressingRise d)
  have hlast (hcount : s.bitCount = 7) : exec (.addressingRise pd d) s = .next (recogniseAddress shifted) := by
    rw [hrun, addressingRise_last (s := sample true d s) hcount, hshift]
  have addressed {b : Byte} {a : BitVec 7} {dir : Direction} {r : Responder} (hcount : s.bitCount = 7)
      (hbyte : byte = b) (ha : addr7Of b = a) (hdir : dirOf b = dir) (hlookup : lookup a shifted = some r) :
      exec (.addressingRise pd d) s =
        .next { (callStart r a dir shifted).1 with active := some r, busState := afterAddress dir } := by
    subst hbyte
    rw [hlast hcount, recogniseAddress_of_lookup (s := shifted) ha hdir hlookup]
  refine ⟨fun hcount => ?_, fun hcount hbyte hen => ?_, fun hcount hbyte hen => ?_, fun hcount hbyte hen => ?_,
    fun hcount hbyte hen => ?_, fun hcount hrtc hmem => ?_⟩
  · rw [hrun, addressingRise_within (s := sample true d s) hcount, hshift]
  · exact addressed (dir := .read) hcount hbyte (by decide) (by decide) (lookup_rtc hen)
  · exact addressed (dir := .write) hcount hbyte (by decide) (by decide) (lookup_rtc hen)
  · exact addressed (dir := .read) hcount hbyte (by decide) (by decide) (lookup_mem hen)
  · exact addressed (dir := .write) hcount hbyte (by decide) (by decide) (lookup_mem hen)
  · have hunknown : lookup (addr7Of byte) shifted = none := by
      obtain ⟨-, ha, hen⟩ | ⟨-, ha, hen⟩ | ⟨hnone, -, -⟩ := lookup_cases (addr7Of byte) shifted
      · exact absurd ⟨addr7Of_eq_rtc byte ha, hen⟩ hrtc
      · exact absurd ⟨addr7Of_eq_mem byte ha, hen⟩ hmem
      · exact hnone
    rw [hlast hcount, recogniseAddress_of_unknown (s := shifted) hunknown]

end Sys2Proof.Machine
end

/-! ### Reset and power-on (70_reset_and_hazards.md R240 to R243) -/

section

namespace Sys2Proof.Machine

/-- The reset sequence leaves the checksum of its own result: the bytes it clears are not covered. -/
theorem Memory.checksum_storeReset (n : Nat) (m : Memory) : (m.applyDyn n).checksum = (m.storeReset n).checksum := by
  have hread (a : Nat) (hlow : 0x10 ≤ a) (hhigh : a < 256) (hck : a ≠ 0x3F) :
      (m.applyDyn n).read a = (m.storeReset n).read a := by
    have hchange : Memory.dynMayChange a = true := by simp [Memory.dynMayChange, Memory.checksumAddr, hlow, hck]
    rw [Memory.read_applyDyn n m hhigh, if_pos hchange, Memory.read_storeReset n m hhigh, if_neg (by omega),
      if_neg (show a ≠ Memory.checksumAddr from hck)]
  unfold Memory.checksum
  rw [Memory.sumFrom_congr 192 0x40 fun a _ _ => hread a (by omega) (by omega) (by omega),
    Memory.sumFrom_congr 47 0x10 fun a _ _ => hread a (by omega) (by omega) (by omega)]

/-- Settles O54: the state is that of `machineReset_eq`, and its store that of `read_storeReset`. -/
theorem resetResult : Obligations.ResetResult := by
  intro mask s hfault
  have hstore : (machineReset mask s).store = s.store.storeReset s.draws := by rw [machineReset_eq mask hfault]
  refine ⟨machineReset mask s, whenUnfaulted_next hfault (machineReset mask), ?_, ?_⟩
  · rw [hstore, machineReset_eq mask hfault]
  · rw [hstore]
    refine ⟨fun a ha => ?_, fun a hlow hhigh hck => ?_, ?_, Memory.wf_storeReset s.draws s.store⟩
    · rw [Memory.read_storeReset _ _ (by omega), if_pos ha]
    · rw [Memory.read_storeReset _ _ hhigh, if_neg (by omega), if_neg (show a ≠ Memory.checksumAddr from hck)]
    · rw [Memory.read_storeReset _ _ (by decide), if_neg (by decide),
        if_pos (show 0x3F = Memory.checksumAddr from rfl), Memory.checksum_storeReset]
      exact Memory.checksum_eq_ofNat_sum _

/-- Settles O55: power-on is the reset of the loaded state, whatever fault was recorded before. -/
theorem powerOnResult : Obligations.PowerOnResult := by
  intro mask s
  have hreset : machineReset mask (powerOnLoad s) = _ := machineReset_eq mask rfl
  refine ⟨machineReset mask (powerOnLoad s), Memory.initialImage s.draws, rfl, ?_, ?_, fun a ha => ?_, ?_⟩
  · rw [hreset]
    rfl
  · rw [hreset]
    rfl
  · exact Memory.read_ofFn _ ha
  · exact whenUnfaulted_next (s := powerOnLoad s) rfl (machineReset mask)

/-- Settles O56: the fields by evaluation, and the power-on by `machineReset_eq` at draw 0. -/
theorem resetStateIsAPowerOn : Obligations.ResetStateIsAPowerOn := by
  refine ⟨⟨rfl, rfl, rfl, rfl, rfl, rfl, rfl, rfl, rfl, rfl, rfl, rfl, rfl, rfl, rfl⟩, fun s hdraws => ?_⟩
  have hreset : machineReset Config.sessionMask (powerOnLoad s) = _ := machineReset_eq Config.sessionMask rfl
  refine congrArg Host.Outcome.next (hreset.trans ?_)
  simp only [powerOnLoad, hdraws, State.reset]

end Sys2Proof.Machine
end
